-- ==== Sys2Proof/Word.lean ====
section
/-! DEFINITION. The two word types of the hardware: the byte and the 16-bit address. -/

namespace Sys2Proof

/-- Every register value, status value and memory cell: an unsigned 8-bit value
(`00_scope.md` R4 REG_WIDTH, R5). -/
abbrev Byte := BitVec 8

/-- Every address and the program counter: an unsigned 16-bit value (`00_scope.md` R4 PC_WIDTH, R5). -/
abbrev Addr := BitVec 16

end Sys2Proof
end

