-- ==== Sys2Proof/Config.lean ====
section
/-! DEFINITION. The implementation parameters of `00_scope.md` R4, at the values the spec gives them. No value of this
hardware is left open, so there is no free value here. -/

namespace Sys2Proof.Config

/-- Z_BIT: the status bit of the Zero flag (R4, R15). -/
def zBit : Nat := 1

/-- N_BIT: the status bit of the Negative flag (R4, R15). -/
def nBit : Nat := 7

/-- RESET_VECTOR: the address of the low byte of the reset vector (R4, R164). -/
def resetVector : Addr := 0xFFFC

/-- LOAD_BASE: the address at which `load` places a program (R4, R161). -/
def loadBase : Addr := 0x8000

/-- The longest program `load` accepts: MEM_SIZE - LOAD_BASE bytes (R161, R162). -/
def loadCapacity : Nat := 0x8000

/-- OPCODE_LDA_ABS: the opcode byte of LDA Absolute.
PRESUMED (log 4, unsafe): the spec takes 0xAD from general knowledge (R54, D6, G1).  Decoder, encoder and lengths all
take the byte from here, so a correction to another unmapped byte is made in this one place. -/
def opcodeLdaAbs : Byte := 0xAD

/-- NOP_SKIP: how many bytes NOP advances after the opcode fetch.
DESIGN CHOICE of the spec (log 3, unsafe): two readings of the source exist (C2, D5). -/
def nopSkip : Nat := 1

/-- The byte the encoder writes where NOP skips one.
DESIGN CHOICE (log 13, safe): R130 allows any byte there and the hardware never reads it. -/
def nopFiller : Byte := 0x00

end Sys2Proof.Config
end

