-- ==== Sys2Proof/Syntax.lean ====
section
/-! DEFINITION. The abstract syntax: the addressing-mode tags of the resolver and `Instr`, one
constructor for each of the 256 rows of `spec/opcode_table.json` (`30_encoding.md` R55, R57). Every
operand has the width its encoding gives it (R50, R52), so there is no ill-formed `Instr`. -/

namespace Sys2Proof

/-- The closed set of addressing-mode tags (`40_address_resolver.md` R70), the sentinel
"NoAddressing" included.  A tag lives inside one step and is never stored (`10_state.md` R21). -/
inductive Mode where
  | immediate
  | zeroPage
  | zeroPageX
  | zeroPageY
  | absolute
  | absoluteX
  | absoluteY
  | indirectX
  | indirectY
  | noAddressing
  deriving DecidableEq, Repr

/-- The instructions, one constructor per opcode byte.  The first ten are the named opcodes of
`30_encoding.md` R55; `unmappedHH` is the opcode byte `0xHH`, which names no instruction (R57). -/
inductive Instr where
  /-- `A9 nn`, LDA Immediate (R110): `value` is the immediate byte. -/
  | ldaImm (value : Byte)
  /-- `A5 nn`, LDA ZeroPage (R111): `base` is the zero-page address. -/
  | ldaZp (base : Byte)
  /-- `AD ll hh`, LDA Absolute (R112): `target` is the 16-bit address `hh : ll`. -/
  | ldaAbs (target : Addr)
  /-- `A2 nn`, LDX Immediate (R113). -/
  | ldxImm (value : Byte)
  /-- `85 nn`, STA ZeroPage (R114). -/
  | staZp (base : Byte)
  /-- `95 nn`, STA ZeroPage indexed by X (R115): `base` is the address before `X` is added. -/
  | staZpX (base : Byte)
  /-- `AA`, TAX (R120). -/
  | tax
  /-- `E8`, INX (R121). -/
  | inx
  /-- `EA xx`, NOP (R130): `xx` is skipped, "never read, never used", so it is no operand. -/
  | nop
  /-- `00`, BRK (R131). -/
  | brk
  | unmapped01 | unmapped02 | unmapped03 | unmapped04 | unmapped05 | unmapped06
  | unmapped07 | unmapped08 | unmapped09 | unmapped0A | unmapped0B | unmapped0C
  | unmapped0D | unmapped0E | unmapped0F | unmapped10 | unmapped11 | unmapped12
  | unmapped13 | unmapped14 | unmapped15 | unmapped16 | unmapped17 | unmapped18
  | unmapped19 | unmapped1A | unmapped1B | unmapped1C | unmapped1D | unmapped1E
  | unmapped1F | unmapped20 | unmapped21 | unmapped22 | unmapped23 | unmapped24
  | unmapped25 | unmapped26 | unmapped27 | unmapped28 | unmapped29 | unmapped2A
  | unmapped2B | unmapped2C | unmapped2D | unmapped2E | unmapped2F | unmapped30
  | unmapped31 | unmapped32 | unmapped33 | unmapped34 | unmapped35 | unmapped36
  | unmapped37 | unmapped38 | unmapped39 | unmapped3A | unmapped3B | unmapped3C
  | unmapped3D | unmapped3E | unmapped3F | unmapped40 | unmapped41 | unmapped42
  | unmapped43 | unmapped44 | unmapped45 | unmapped46 | unmapped47 | unmapped48
  | unmapped49 | unmapped4A | unmapped4B | unmapped4C | unmapped4D | unmapped4E
  | unmapped4F | unmapped50 | unmapped51 | unmapped52 | unmapped53 | unmapped54
  | unmapped55 | unmapped56 | unmapped57 | unmapped58 | unmapped59 | unmapped5A
  | unmapped5B | unmapped5C | unmapped5D | unmapped5E | unmapped5F | unmapped60
  | unmapped61 | unmapped62 | unmapped63 | unmapped64 | unmapped65 | unmapped66
  | unmapped67 | unmapped68 | unmapped69 | unmapped6A | unmapped6B | unmapped6C
  | unmapped6D | unmapped6E | unmapped6F | unmapped70 | unmapped71 | unmapped72
  | unmapped73 | unmapped74 | unmapped75 | unmapped76 | unmapped77 | unmapped78
  | unmapped79 | unmapped7A | unmapped7B | unmapped7C | unmapped7D | unmapped7E
  | unmapped7F | unmapped80 | unmapped81 | unmapped82 | unmapped83 | unmapped84
  | unmapped86 | unmapped87 | unmapped88 | unmapped89 | unmapped8A | unmapped8B
  | unmapped8C | unmapped8D | unmapped8E | unmapped8F | unmapped90 | unmapped91
  | unmapped92 | unmapped93 | unmapped94 | unmapped96 | unmapped97 | unmapped98
  | unmapped99 | unmapped9A | unmapped9B | unmapped9C | unmapped9D | unmapped9E
  | unmapped9F | unmappedA0 | unmappedA1 | unmappedA3 | unmappedA4 | unmappedA6
  | unmappedA7 | unmappedA8 | unmappedAB | unmappedAC | unmappedAE | unmappedAF
  | unmappedB0 | unmappedB1 | unmappedB2 | unmappedB3 | unmappedB4 | unmappedB5
  | unmappedB6 | unmappedB7 | unmappedB8 | unmappedB9 | unmappedBA | unmappedBB
  | unmappedBC | unmappedBD | unmappedBE | unmappedBF | unmappedC0 | unmappedC1
  | unmappedC2 | unmappedC3 | unmappedC4 | unmappedC5 | unmappedC6 | unmappedC7
  | unmappedC8 | unmappedC9 | unmappedCA | unmappedCB | unmappedCC | unmappedCD
  | unmappedCE | unmappedCF | unmappedD0 | unmappedD1 | unmappedD2 | unmappedD3
  | unmappedD4 | unmappedD5 | unmappedD6 | unmappedD7 | unmappedD8 | unmappedD9
  | unmappedDA | unmappedDB | unmappedDC | unmappedDD | unmappedDE | unmappedDF
  | unmappedE0 | unmappedE1 | unmappedE2 | unmappedE3 | unmappedE4 | unmappedE5
  | unmappedE6 | unmappedE7 | unmappedE9 | unmappedEB | unmappedEC | unmappedED
  | unmappedEE | unmappedEF | unmappedF0 | unmappedF1 | unmappedF2 | unmappedF3
  | unmappedF4 | unmappedF5 | unmappedF6 | unmappedF7 | unmappedF8 | unmappedF9
  | unmappedFA | unmappedFB | unmappedFC | unmappedFD | unmappedFE | unmappedFF
  deriving DecidableEq, Repr

end Sys2Proof
end

