-- ==== Sys2Proof/Decode.lean ====
section
/-! DEFINITION. The decoder and the encoder (`30_encoding.md`). Decoding looks the whole opcode byte up
(R51, R59) and takes the operand bytes after it (R50, R52); it rejects only a byte list that ends before
the instruction does. The encoder is written from the same rules, but as a function of its own, so that the
round trip compares two readings of the opcode map R55. -/

namespace Sys2Proof

/-- The 16-bit value `hi : lo` of `00_scope.md` R6. -/
def joinBytes (hi lo : Byte) : Addr := hi ++ lo

/-- The ten opcode bytes that name an instruction (R55); the other 246 are unmapped (R57). -/
def mappedOpcodes : List Byte := [0xA9, 0xA5, Config.opcodeLdaAbs, 0xA2, 0x85, 0x95, 0xAA, 0xE8, 0xEA, 0x00]

/-- The row of the printed opcode map R55 and R57 at which LDA Absolute stands.  A place in the spec's table, not the
opcode byte: that is `Config.opcodeLdaAbs` alone (R54). -/
def ldaAbsRow : Byte := 0xAD

/-- The row of the printed opcode map that an opcode byte selects, and the opcode byte that selects a row: each byte its
own row while `Config.opcodeLdaAbs` is the printed 0xAD.  Were that constant corrected to an unmapped byte, the two
rows would change places, so that the new byte is LDA Absolute and 0xAD is unmapped (R54, R57, log 4). -/
def opcodeMapRow (op : Byte) : Byte :=
  if op = Config.opcodeLdaAbs then ldaAbsRow
  else if op = ldaAbsRow then Config.opcodeLdaAbs
  else op

/-- Operand bytes of each addressing mode (R56): how far the dispatcher moves `pc` after the work. -/
def Mode.operandBytes : Mode → Nat
  | .immediate | .zeroPage | .zeroPageX | .zeroPageY | .indirectX | .indirectY => 1
  | .absolute | .absoluteX | .absoluteY => 2
  | .noAddressing => 0

/-- The addressing mode of an opcode byte: the column "addressing mode" of the map R55. -/
def opcodeMode (op : Byte) : Mode :=
  if op = 0xA9 ∨ op = 0xA2 then .immediate
  else if op = 0xA5 ∨ op = 0x85 then .zeroPage
  else if op = 0x95 then .zeroPageX
  else if op = Config.opcodeLdaAbs then .absolute
  else .noAddressing

/-- The bytes that follow an opcode byte: the column "adv" of the map R55.  It is the operand length of the
mode, but for NOP (0xEA), which advances by its own rule (R56, R130). -/
def opcodeAdvance (op : Byte) : Nat :=
  if op = 0xEA then Config.nopSkip else (opcodeMode op).operandBytes

/-- Rows 0x00 to 0x0F of the printed opcode map, by their low four bits. -/
def opcodeRow0 : Nat → Instr
  | 0x0 => .brk
  | 0x1 => .unmapped01
  | 0x2 => .unmapped02
  | 0x3 => .unmapped03
  | 0x4 => .unmapped04
  | 0x5 => .unmapped05
  | 0x6 => .unmapped06
  | 0x7 => .unmapped07
  | 0x8 => .unmapped08
  | 0x9 => .unmapped09
  | 0xA => .unmapped0A
  | 0xB => .unmapped0B
  | 0xC => .unmapped0C
  | 0xD => .unmapped0D
  | 0xE => .unmapped0E
  | _ => .unmapped0F

/-- Rows 0x10 to 0x1F of the printed opcode map, by their low four bits. -/
def opcodeRow1 : Nat → Instr
  | 0x0 => .unmapped10
  | 0x1 => .unmapped11
  | 0x2 => .unmapped12
  | 0x3 => .unmapped13
  | 0x4 => .unmapped14
  | 0x5 => .unmapped15
  | 0x6 => .unmapped16
  | 0x7 => .unmapped17
  | 0x8 => .unmapped18
  | 0x9 => .unmapped19
  | 0xA => .unmapped1A
  | 0xB => .unmapped1B
  | 0xC => .unmapped1C
  | 0xD => .unmapped1D
  | 0xE => .unmapped1E
  | _ => .unmapped1F

/-- Rows 0x20 to 0x2F of the printed opcode map, by their low four bits. -/
def opcodeRow2 : Nat → Instr
  | 0x0 => .unmapped20
  | 0x1 => .unmapped21
  | 0x2 => .unmapped22
  | 0x3 => .unmapped23
  | 0x4 => .unmapped24
  | 0x5 => .unmapped25
  | 0x6 => .unmapped26
  | 0x7 => .unmapped27
  | 0x8 => .unmapped28
  | 0x9 => .unmapped29
  | 0xA => .unmapped2A
  | 0xB => .unmapped2B
  | 0xC => .unmapped2C
  | 0xD => .unmapped2D
  | 0xE => .unmapped2E
  | _ => .unmapped2F

/-- Rows 0x30 to 0x3F of the printed opcode map, by their low four bits. -/
def opcodeRow3 : Nat → Instr
  | 0x0 => .unmapped30
  | 0x1 => .unmapped31
  | 0x2 => .unmapped32
  | 0x3 => .unmapped33
  | 0x4 => .unmapped34
  | 0x5 => .unmapped35
  | 0x6 => .unmapped36
  | 0x7 => .unmapped37
  | 0x8 => .unmapped38
  | 0x9 => .unmapped39
  | 0xA => .unmapped3A
  | 0xB => .unmapped3B
  | 0xC => .unmapped3C
  | 0xD => .unmapped3D
  | 0xE => .unmapped3E
  | _ => .unmapped3F

/-- Rows 0x40 to 0x4F of the printed opcode map, by their low four bits. -/
def opcodeRow4 : Nat → Instr
  | 0x0 => .unmapped40
  | 0x1 => .unmapped41
  | 0x2 => .unmapped42
  | 0x3 => .unmapped43
  | 0x4 => .unmapped44
  | 0x5 => .unmapped45
  | 0x6 => .unmapped46
  | 0x7 => .unmapped47
  | 0x8 => .unmapped48
  | 0x9 => .unmapped49
  | 0xA => .unmapped4A
  | 0xB => .unmapped4B
  | 0xC => .unmapped4C
  | 0xD => .unmapped4D
  | 0xE => .unmapped4E
  | _ => .unmapped4F

/-- Rows 0x50 to 0x5F of the printed opcode map, by their low four bits. -/
def opcodeRow5 : Nat → Instr
  | 0x0 => .unmapped50
  | 0x1 => .unmapped51
  | 0x2 => .unmapped52
  | 0x3 => .unmapped53
  | 0x4 => .unmapped54
  | 0x5 => .unmapped55
  | 0x6 => .unmapped56
  | 0x7 => .unmapped57
  | 0x8 => .unmapped58
  | 0x9 => .unmapped59
  | 0xA => .unmapped5A
  | 0xB => .unmapped5B
  | 0xC => .unmapped5C
  | 0xD => .unmapped5D
  | 0xE => .unmapped5E
  | _ => .unmapped5F

/-- Rows 0x60 to 0x6F of the printed opcode map, by their low four bits. -/
def opcodeRow6 : Nat → Instr
  | 0x0 => .unmapped60
  | 0x1 => .unmapped61
  | 0x2 => .unmapped62
  | 0x3 => .unmapped63
  | 0x4 => .unmapped64
  | 0x5 => .unmapped65
  | 0x6 => .unmapped66
  | 0x7 => .unmapped67
  | 0x8 => .unmapped68
  | 0x9 => .unmapped69
  | 0xA => .unmapped6A
  | 0xB => .unmapped6B
  | 0xC => .unmapped6C
  | 0xD => .unmapped6D
  | 0xE => .unmapped6E
  | _ => .unmapped6F

/-- Rows 0x70 to 0x7F of the printed opcode map, by their low four bits. -/
def opcodeRow7 : Nat → Instr
  | 0x0 => .unmapped70
  | 0x1 => .unmapped71
  | 0x2 => .unmapped72
  | 0x3 => .unmapped73
  | 0x4 => .unmapped74
  | 0x5 => .unmapped75
  | 0x6 => .unmapped76
  | 0x7 => .unmapped77
  | 0x8 => .unmapped78
  | 0x9 => .unmapped79
  | 0xA => .unmapped7A
  | 0xB => .unmapped7B
  | 0xC => .unmapped7C
  | 0xD => .unmapped7D
  | 0xE => .unmapped7E
  | _ => .unmapped7F

/-- Rows 0x80 to 0x8F of the printed opcode map, by their low four bits. -/
def opcodeRow8 (b1 : Byte) : Nat → Instr
  | 0x0 => .unmapped80
  | 0x1 => .unmapped81
  | 0x2 => .unmapped82
  | 0x3 => .unmapped83
  | 0x4 => .unmapped84
  | 0x5 => .staZp b1
  | 0x6 => .unmapped86
  | 0x7 => .unmapped87
  | 0x8 => .unmapped88
  | 0x9 => .unmapped89
  | 0xA => .unmapped8A
  | 0xB => .unmapped8B
  | 0xC => .unmapped8C
  | 0xD => .unmapped8D
  | 0xE => .unmapped8E
  | _ => .unmapped8F

/-- Rows 0x90 to 0x9F of the printed opcode map, by their low four bits. -/
def opcodeRow9 (b1 : Byte) : Nat → Instr
  | 0x0 => .unmapped90
  | 0x1 => .unmapped91
  | 0x2 => .unmapped92
  | 0x3 => .unmapped93
  | 0x4 => .unmapped94
  | 0x5 => .staZpX b1
  | 0x6 => .unmapped96
  | 0x7 => .unmapped97
  | 0x8 => .unmapped98
  | 0x9 => .unmapped99
  | 0xA => .unmapped9A
  | 0xB => .unmapped9B
  | 0xC => .unmapped9C
  | 0xD => .unmapped9D
  | 0xE => .unmapped9E
  | _ => .unmapped9F

/-- Rows 0xA0 to 0xAF of the printed opcode map, by their low four bits. -/
def opcodeRowA (b1 b2 : Byte) : Nat → Instr
  | 0x0 => .unmappedA0
  | 0x1 => .unmappedA1
  | 0x2 => .ldxImm b1
  | 0x3 => .unmappedA3
  | 0x4 => .unmappedA4
  | 0x5 => .ldaZp b1
  | 0x6 => .unmappedA6
  | 0x7 => .unmappedA7
  | 0x8 => .unmappedA8
  | 0x9 => .ldaImm b1
  | 0xA => .tax
  | 0xB => .unmappedAB
  | 0xC => .unmappedAC
  | 0xD => .ldaAbs (joinBytes b2 b1)
  | 0xE => .unmappedAE
  | _ => .unmappedAF

/-- Rows 0xB0 to 0xBF of the printed opcode map, by their low four bits. -/
def opcodeRowB : Nat → Instr
  | 0x0 => .unmappedB0
  | 0x1 => .unmappedB1
  | 0x2 => .unmappedB2
  | 0x3 => .unmappedB3
  | 0x4 => .unmappedB4
  | 0x5 => .unmappedB5
  | 0x6 => .unmappedB6
  | 0x7 => .unmappedB7
  | 0x8 => .unmappedB8
  | 0x9 => .unmappedB9
  | 0xA => .unmappedBA
  | 0xB => .unmappedBB
  | 0xC => .unmappedBC
  | 0xD => .unmappedBD
  | 0xE => .unmappedBE
  | _ => .unmappedBF

/-- Rows 0xC0 to 0xCF of the printed opcode map, by their low four bits. -/
def opcodeRowC : Nat → Instr
  | 0x0 => .unmappedC0
  | 0x1 => .unmappedC1
  | 0x2 => .unmappedC2
  | 0x3 => .unmappedC3
  | 0x4 => .unmappedC4
  | 0x5 => .unmappedC5
  | 0x6 => .unmappedC6
  | 0x7 => .unmappedC7
  | 0x8 => .unmappedC8
  | 0x9 => .unmappedC9
  | 0xA => .unmappedCA
  | 0xB => .unmappedCB
  | 0xC => .unmappedCC
  | 0xD => .unmappedCD
  | 0xE => .unmappedCE
  | _ => .unmappedCF

/-- Rows 0xD0 to 0xDF of the printed opcode map, by their low four bits. -/
def opcodeRowD : Nat → Instr
  | 0x0 => .unmappedD0
  | 0x1 => .unmappedD1
  | 0x2 => .unmappedD2
  | 0x3 => .unmappedD3
  | 0x4 => .unmappedD4
  | 0x5 => .unmappedD5
  | 0x6 => .unmappedD6
  | 0x7 => .unmappedD7
  | 0x8 => .unmappedD8
  | 0x9 => .unmappedD9
  | 0xA => .unmappedDA
  | 0xB => .unmappedDB
  | 0xC => .unmappedDC
  | 0xD => .unmappedDD
  | 0xE => .unmappedDE
  | _ => .unmappedDF

/-- Rows 0xE0 to 0xEF of the printed opcode map, by their low four bits. -/
def opcodeRowE : Nat → Instr
  | 0x0 => .unmappedE0
  | 0x1 => .unmappedE1
  | 0x2 => .unmappedE2
  | 0x3 => .unmappedE3
  | 0x4 => .unmappedE4
  | 0x5 => .unmappedE5
  | 0x6 => .unmappedE6
  | 0x7 => .unmappedE7
  | 0x8 => .inx
  | 0x9 => .unmappedE9
  | 0xA => .nop
  | 0xB => .unmappedEB
  | 0xC => .unmappedEC
  | 0xD => .unmappedED
  | 0xE => .unmappedEE
  | _ => .unmappedEF

/-- Rows 0xF0 to 0xFF of the printed opcode map, by their low four bits. -/
def opcodeRowF : Nat → Instr
  | 0x0 => .unmappedF0
  | 0x1 => .unmappedF1
  | 0x2 => .unmappedF2
  | 0x3 => .unmappedF3
  | 0x4 => .unmappedF4
  | 0x5 => .unmappedF5
  | 0x6 => .unmappedF6
  | 0x7 => .unmappedF7
  | 0x8 => .unmappedF8
  | 0x9 => .unmappedF9
  | 0xA => .unmappedFA
  | 0xB => .unmappedFB
  | 0xC => .unmappedFC
  | 0xD => .unmappedFD
  | 0xE => .unmappedFE
  | _ => .unmappedFF

/-- The instruction in a row of the printed opcode map, with `b1` and `b2` as the bytes after the opcode byte.  Only the
operand bytes the row owns are used. -/
def mapInstr (row b1 b2 : Byte) : Instr :=
  match row.toNat / 16 with
  | 0x0 => opcodeRow0 (row.toNat % 16)
  | 0x1 => opcodeRow1 (row.toNat % 16)
  | 0x2 => opcodeRow2 (row.toNat % 16)
  | 0x3 => opcodeRow3 (row.toNat % 16)
  | 0x4 => opcodeRow4 (row.toNat % 16)
  | 0x5 => opcodeRow5 (row.toNat % 16)
  | 0x6 => opcodeRow6 (row.toNat % 16)
  | 0x7 => opcodeRow7 (row.toNat % 16)
  | 0x8 => opcodeRow8 b1 (row.toNat % 16)
  | 0x9 => opcodeRow9 b1 (row.toNat % 16)
  | 0xA => opcodeRowA b1 b2 (row.toNat % 16)
  | 0xB => opcodeRowB (row.toNat % 16)
  | 0xC => opcodeRowC (row.toNat % 16)
  | 0xD => opcodeRowD (row.toNat % 16)
  | 0xE => opcodeRowE (row.toNat % 16)
  | _ => opcodeRowF (row.toNat % 16)

/-- The instruction whose opcode byte is `op` and whose next two bytes are `b1`, `b2` (R51, R55, R57): total,
since every byte value decodes. -/
def instrOf (op b1 b2 : Byte) : Instr := mapInstr (opcodeMapRow op) b1 b2

/-- Why a byte list holds no instruction.  No opcode byte is illegal (R57), so both reasons are about length. -/
inductive DecodeError where
  /-- The list is empty.  Raised by `decode` only (safe: the machine always fetches whole instructions). -/
  | noBytes
  /-- The list ends before the last byte the opcode `op` owns.  Raised by `decode` only (safe). -/
  | operandMissing (op : Byte)
  deriving DecidableEq, Repr

/-- Read one instruction from the front of a byte list: the instruction and the bytes after it (R50, R51). -/
def decode : List Byte → Except DecodeError (Instr × List Byte)
  | [] => .error .noBytes
  | op :: rest =>
    if rest.length < opcodeAdvance op then .error (.operandMissing op)
    else .ok (instrOf op (rest.getD 0 0) (rest.getD 1 0), rest.drop (opcodeAdvance op))

/-- The row of an instruction in the printed opcode map: the column "match" of R55, and `0xHH` for `unmappedHH` (R57). -/
def Instr.mapRow : Instr → Byte
  | .ldaImm _ => 0xA9
  | .ldaZp _ => 0xA5
  | .ldaAbs _ => ldaAbsRow
  | .ldxImm _ => 0xA2
  | .staZp _ => 0x85
  | .staZpX _ => 0x95
  | .tax => 0xAA
  | .inx => 0xE8
  | .nop => 0xEA
  | .brk => 0x00
  | .unmapped01 => 0x01
  | .unmapped02 => 0x02
  | .unmapped03 => 0x03
  | .unmapped04 => 0x04
  | .unmapped05 => 0x05
  | .unmapped06 => 0x06
  | .unmapped07 => 0x07
  | .unmapped08 => 0x08
  | .unmapped09 => 0x09
  | .unmapped0A => 0x0A
  | .unmapped0B => 0x0B
  | .unmapped0C => 0x0C
  | .unmapped0D => 0x0D
  | .unmapped0E => 0x0E
  | .unmapped0F => 0x0F
  | .unmapped10 => 0x10
  | .unmapped11 => 0x11
  | .unmapped12 => 0x12
  | .unmapped13 => 0x13
  | .unmapped14 => 0x14
  | .unmapped15 => 0x15
  | .unmapped16 => 0x16
  | .unmapped17 => 0x17
  | .unmapped18 => 0x18
  | .unmapped19 => 0x19
  | .unmapped1A => 0x1A
  | .unmapped1B => 0x1B
  | .unmapped1C => 0x1C
  | .unmapped1D => 0x1D
  | .unmapped1E => 0x1E
  | .unmapped1F => 0x1F
  | .unmapped20 => 0x20
  | .unmapped21 => 0x21
  | .unmapped22 => 0x22
  | .unmapped23 => 0x23
  | .unmapped24 => 0x24
  | .unmapped25 => 0x25
  | .unmapped26 => 0x26
  | .unmapped27 => 0x27
  | .unmapped28 => 0x28
  | .unmapped29 => 0x29
  | .unmapped2A => 0x2A
  | .unmapped2B => 0x2B
  | .unmapped2C => 0x2C
  | .unmapped2D => 0x2D
  | .unmapped2E => 0x2E
  | .unmapped2F => 0x2F
  | .unmapped30 => 0x30
  | .unmapped31 => 0x31
  | .unmapped32 => 0x32
  | .unmapped33 => 0x33
  | .unmapped34 => 0x34
  | .unmapped35 => 0x35
  | .unmapped36 => 0x36
  | .unmapped37 => 0x37
  | .unmapped38 => 0x38
  | .unmapped39 => 0x39
  | .unmapped3A => 0x3A
  | .unmapped3B => 0x3B
  | .unmapped3C => 0x3C
  | .unmapped3D => 0x3D
  | .unmapped3E => 0x3E
  | .unmapped3F => 0x3F
  | .unmapped40 => 0x40
  | .unmapped41 => 0x41
  | .unmapped42 => 0x42
  | .unmapped43 => 0x43
  | .unmapped44 => 0x44
  | .unmapped45 => 0x45
  | .unmapped46 => 0x46
  | .unmapped47 => 0x47
  | .unmapped48 => 0x48
  | .unmapped49 => 0x49
  | .unmapped4A => 0x4A
  | .unmapped4B => 0x4B
  | .unmapped4C => 0x4C
  | .unmapped4D => 0x4D
  | .unmapped4E => 0x4E
  | .unmapped4F => 0x4F
  | .unmapped50 => 0x50
  | .unmapped51 => 0x51
  | .unmapped52 => 0x52
  | .unmapped53 => 0x53
  | .unmapped54 => 0x54
  | .unmapped55 => 0x55
  | .unmapped56 => 0x56
  | .unmapped57 => 0x57
  | .unmapped58 => 0x58
  | .unmapped59 => 0x59
  | .unmapped5A => 0x5A
  | .unmapped5B => 0x5B
  | .unmapped5C => 0x5C
  | .unmapped5D => 0x5D
  | .unmapped5E => 0x5E
  | .unmapped5F => 0x5F
  | .unmapped60 => 0x60
  | .unmapped61 => 0x61
  | .unmapped62 => 0x62
  | .unmapped63 => 0x63
  | .unmapped64 => 0x64
  | .unmapped65 => 0x65
  | .unmapped66 => 0x66
  | .unmapped67 => 0x67
  | .unmapped68 => 0x68
  | .unmapped69 => 0x69
  | .unmapped6A => 0x6A
  | .unmapped6B => 0x6B
  | .unmapped6C => 0x6C
  | .unmapped6D => 0x6D
  | .unmapped6E => 0x6E
  | .unmapped6F => 0x6F
  | .unmapped70 => 0x70
  | .unmapped71 => 0x71
  | .unmapped72 => 0x72
  | .unmapped73 => 0x73
  | .unmapped74 => 0x74
  | .unmapped75 => 0x75
  | .unmapped76 => 0x76
  | .unmapped77 => 0x77
  | .unmapped78 => 0x78
  | .unmapped79 => 0x79
  | .unmapped7A => 0x7A
  | .unmapped7B => 0x7B
  | .unmapped7C => 0x7C
  | .unmapped7D => 0x7D
  | .unmapped7E => 0x7E
  | .unmapped7F => 0x7F
  | .unmapped80 => 0x80
  | .unmapped81 => 0x81
  | .unmapped82 => 0x82
  | .unmapped83 => 0x83
  | .unmapped84 => 0x84
  | .unmapped86 => 0x86
  | .unmapped87 => 0x87
  | .unmapped88 => 0x88
  | .unmapped89 => 0x89
  | .unmapped8A => 0x8A
  | .unmapped8B => 0x8B
  | .unmapped8C => 0x8C
  | .unmapped8D => 0x8D
  | .unmapped8E => 0x8E
  | .unmapped8F => 0x8F
  | .unmapped90 => 0x90
  | .unmapped91 => 0x91
  | .unmapped92 => 0x92
  | .unmapped93 => 0x93
  | .unmapped94 => 0x94
  | .unmapped96 => 0x96
  | .unmapped97 => 0x97
  | .unmapped98 => 0x98
  | .unmapped99 => 0x99
  | .unmapped9A => 0x9A
  | .unmapped9B => 0x9B
  | .unmapped9C => 0x9C
  | .unmapped9D => 0x9D
  | .unmapped9E => 0x9E
  | .unmapped9F => 0x9F
  | .unmappedA0 => 0xA0
  | .unmappedA1 => 0xA1
  | .unmappedA3 => 0xA3
  | .unmappedA4 => 0xA4
  | .unmappedA6 => 0xA6
  | .unmappedA7 => 0xA7
  | .unmappedA8 => 0xA8
  | .unmappedAB => 0xAB
  | .unmappedAC => 0xAC
  | .unmappedAE => 0xAE
  | .unmappedAF => 0xAF
  | .unmappedB0 => 0xB0
  | .unmappedB1 => 0xB1
  | .unmappedB2 => 0xB2
  | .unmappedB3 => 0xB3
  | .unmappedB4 => 0xB4
  | .unmappedB5 => 0xB5
  | .unmappedB6 => 0xB6
  | .unmappedB7 => 0xB7
  | .unmappedB8 => 0xB8
  | .unmappedB9 => 0xB9
  | .unmappedBA => 0xBA
  | .unmappedBB => 0xBB
  | .unmappedBC => 0xBC
  | .unmappedBD => 0xBD
  | .unmappedBE => 0xBE
  | .unmappedBF => 0xBF
  | .unmappedC0 => 0xC0
  | .unmappedC1 => 0xC1
  | .unmappedC2 => 0xC2
  | .unmappedC3 => 0xC3
  | .unmappedC4 => 0xC4
  | .unmappedC5 => 0xC5
  | .unmappedC6 => 0xC6
  | .unmappedC7 => 0xC7
  | .unmappedC8 => 0xC8
  | .unmappedC9 => 0xC9
  | .unmappedCA => 0xCA
  | .unmappedCB => 0xCB
  | .unmappedCC => 0xCC
  | .unmappedCD => 0xCD
  | .unmappedCE => 0xCE
  | .unmappedCF => 0xCF
  | .unmappedD0 => 0xD0
  | .unmappedD1 => 0xD1
  | .unmappedD2 => 0xD2
  | .unmappedD3 => 0xD3
  | .unmappedD4 => 0xD4
  | .unmappedD5 => 0xD5
  | .unmappedD6 => 0xD6
  | .unmappedD7 => 0xD7
  | .unmappedD8 => 0xD8
  | .unmappedD9 => 0xD9
  | .unmappedDA => 0xDA
  | .unmappedDB => 0xDB
  | .unmappedDC => 0xDC
  | .unmappedDD => 0xDD
  | .unmappedDE => 0xDE
  | .unmappedDF => 0xDF
  | .unmappedE0 => 0xE0
  | .unmappedE1 => 0xE1
  | .unmappedE2 => 0xE2
  | .unmappedE3 => 0xE3
  | .unmappedE4 => 0xE4
  | .unmappedE5 => 0xE5
  | .unmappedE6 => 0xE6
  | .unmappedE7 => 0xE7
  | .unmappedE9 => 0xE9
  | .unmappedEB => 0xEB
  | .unmappedEC => 0xEC
  | .unmappedED => 0xED
  | .unmappedEE => 0xEE
  | .unmappedEF => 0xEF
  | .unmappedF0 => 0xF0
  | .unmappedF1 => 0xF1
  | .unmappedF2 => 0xF2
  | .unmappedF3 => 0xF3
  | .unmappedF4 => 0xF4
  | .unmappedF5 => 0xF5
  | .unmappedF6 => 0xF6
  | .unmappedF7 => 0xF7
  | .unmappedF8 => 0xF8
  | .unmappedF9 => 0xF9
  | .unmappedFA => 0xFA
  | .unmappedFB => 0xFB
  | .unmappedFC => 0xFC
  | .unmappedFD => 0xFD
  | .unmappedFE => 0xFE
  | .unmappedFF => 0xFF

/-- The opcode byte of an instruction: the byte that selects its row (R51, R54). -/
def Instr.opcode (i : Instr) : Byte := opcodeMapRow i.mapRow

/-- The bytes after the opcode byte: an 8-bit operand is one byte, a 16-bit address its low byte then its high
byte (R50, R34); NOP's skipped byte is a filler (log 13).  Every other instruction is its opcode byte alone (format F0). -/
def Instr.operandField : Instr → List Byte
  | .ldaImm v | .ldaZp v | .ldxImm v | .staZp v | .staZpX v => [v]
  | .ldaAbs target => [target.setWidth 8, (target >>> 8).setWidth 8]
  | .nop => List.replicate Config.nopSkip Config.nopFiller
  | .tax | .inx | .brk
  | .unmapped01 | .unmapped02 | .unmapped03 | .unmapped04 | .unmapped05 | .unmapped06 | .unmapped07 | .unmapped08
  | .unmapped09 | .unmapped0A | .unmapped0B | .unmapped0C | .unmapped0D | .unmapped0E | .unmapped0F | .unmapped10
  | .unmapped11 | .unmapped12 | .unmapped13 | .unmapped14 | .unmapped15 | .unmapped16 | .unmapped17 | .unmapped18
  | .unmapped19 | .unmapped1A | .unmapped1B | .unmapped1C | .unmapped1D | .unmapped1E | .unmapped1F | .unmapped20
  | .unmapped21 | .unmapped22 | .unmapped23 | .unmapped24 | .unmapped25 | .unmapped26 | .unmapped27 | .unmapped28
  | .unmapped29 | .unmapped2A | .unmapped2B | .unmapped2C | .unmapped2D | .unmapped2E | .unmapped2F | .unmapped30
  | .unmapped31 | .unmapped32 | .unmapped33 | .unmapped34 | .unmapped35 | .unmapped36 | .unmapped37 | .unmapped38
  | .unmapped39 | .unmapped3A | .unmapped3B | .unmapped3C | .unmapped3D | .unmapped3E | .unmapped3F | .unmapped40
  | .unmapped41 | .unmapped42 | .unmapped43 | .unmapped44 | .unmapped45 | .unmapped46 | .unmapped47 | .unmapped48
  | .unmapped49 | .unmapped4A | .unmapped4B | .unmapped4C | .unmapped4D | .unmapped4E | .unmapped4F | .unmapped50
  | .unmapped51 | .unmapped52 | .unmapped53 | .unmapped54 | .unmapped55 | .unmapped56 | .unmapped57 | .unmapped58
  | .unmapped59 | .unmapped5A | .unmapped5B | .unmapped5C | .unmapped5D | .unmapped5E | .unmapped5F | .unmapped60
  | .unmapped61 | .unmapped62 | .unmapped63 | .unmapped64 | .unmapped65 | .unmapped66 | .unmapped67 | .unmapped68
  | .unmapped69 | .unmapped6A | .unmapped6B | .unmapped6C | .unmapped6D | .unmapped6E | .unmapped6F | .unmapped70
  | .unmapped71 | .unmapped72 | .unmapped73 | .unmapped74 | .unmapped75 | .unmapped76 | .unmapped77 | .unmapped78
  | .unmapped79 | .unmapped7A | .unmapped7B | .unmapped7C | .unmapped7D | .unmapped7E | .unmapped7F | .unmapped80
  | .unmapped81 | .unmapped82 | .unmapped83 | .unmapped84 | .unmapped86 | .unmapped87 | .unmapped88 | .unmapped89
  | .unmapped8A | .unmapped8B | .unmapped8C | .unmapped8D | .unmapped8E | .unmapped8F | .unmapped90 | .unmapped91
  | .unmapped92 | .unmapped93 | .unmapped94 | .unmapped96 | .unmapped97 | .unmapped98 | .unmapped99 | .unmapped9A
  | .unmapped9B | .unmapped9C | .unmapped9D | .unmapped9E | .unmapped9F | .unmappedA0 | .unmappedA1 | .unmappedA3
  | .unmappedA4 | .unmappedA6 | .unmappedA7 | .unmappedA8 | .unmappedAB | .unmappedAC | .unmappedAE | .unmappedAF
  | .unmappedB0 | .unmappedB1 | .unmappedB2 | .unmappedB3 | .unmappedB4 | .unmappedB5 | .unmappedB6 | .unmappedB7
  | .unmappedB8 | .unmappedB9 | .unmappedBA | .unmappedBB | .unmappedBC | .unmappedBD | .unmappedBE | .unmappedBF
  | .unmappedC0 | .unmappedC1 | .unmappedC2 | .unmappedC3 | .unmappedC4 | .unmappedC5 | .unmappedC6 | .unmappedC7
  | .unmappedC8 | .unmappedC9 | .unmappedCA | .unmappedCB | .unmappedCC | .unmappedCD | .unmappedCE | .unmappedCF
  | .unmappedD0 | .unmappedD1 | .unmappedD2 | .unmappedD3 | .unmappedD4 | .unmappedD5 | .unmappedD6 | .unmappedD7
  | .unmappedD8 | .unmappedD9 | .unmappedDA | .unmappedDB | .unmappedDC | .unmappedDD | .unmappedDE | .unmappedDF
  | .unmappedE0 | .unmappedE1 | .unmappedE2 | .unmappedE3 | .unmappedE4 | .unmappedE5 | .unmappedE6 | .unmappedE7
  | .unmappedE9 | .unmappedEB | .unmappedEC | .unmappedED | .unmappedEE | .unmappedEF | .unmappedF0 | .unmappedF1
  | .unmappedF2 | .unmappedF3 | .unmappedF4 | .unmappedF5 | .unmappedF6 | .unmappedF7 | .unmappedF8 | .unmappedF9
  | .unmappedFA | .unmappedFB | .unmappedFC | .unmappedFD | .unmappedFE | .unmappedFF => []

/-- The bytes of an instruction, first byte first (R50, R55). -/
def encode (i : Instr) : List Byte := i.opcode :: i.operandField

/-- Byte `k` of an instruction word of `nbits` bits numbered from its first byte upward: 0 at or above `nbits`. -/
def tableByte (nbits w k : Nat) : Byte :=
  BitVec.ofNat 8 ((w % 2 ^ nbits) / 2 ^ (8 * k))

/-- The three bytes at which an instruction word and the zeros after it lie, in the order they are stored. -/
def tableBytes (nbits w : Nat) : List Byte :=
  [tableByte nbits w 0, tableByte nbits w 1, tableByte nbits w 2]

/-- What the decoder reads from an instruction whose bits are `w`, numbered as `spec/opcode_table.json` does. -/
def decodeTableWord (nbits w : Nat) : Option Instr :=
  match decode (tableBytes nbits w) with
  | .ok (i, _) => some i
  | .error _ => none

end Sys2Proof
end

