-- ==== Sys2Proof/Machine/State.lean ====
section
/-! DEFINITION. The state of the machine, whole (`10_state.md` R10 to R20, `20_memory.md` R30), as plain data; the
reasons for which a step can stop; and the state right after reset. -/

namespace Sys2Proof.Machine

/-- The run state (`10_state.md` R19): "Running, Halted (terminal)". -/
inductive RunState where
  | running
  | halted
  deriving DecidableEq, Repr

/-- The address space as the list of its cells that do not hold 0x00, in rising address order (log 11).
An unlisted address holds 0x00, which is what every cell holds at power-on (`20_memory.md` R30, `10_state.md` R26). -/
abbrev Memory := List Host.Cell

/-- The canonical form: addresses strictly rising, inside the 65536 cells (R31), and no cell listed that holds 0x00. -/
abbrev Memory.wf (m : Memory) : Prop :=
  m.Pairwise (fun c d => c.1 < d.1) ∧ ∀ c ∈ m, c.1 < 65536 ∧ c.2 ≠ 0

/-- The state: the tuple (`A`, `X`, `Y`, `P`, `pc`, `run`, memory) of `00_scope.md` R8 and nothing more (R20). -/
structure State where
  /-- `register_a` (R10). -/
  a : Byte
  /-- `register_x` (R10). -/
  x : Byte
  /-- `register_y` (R10, R12). -/
  y : Byte
  /-- `status` (R15): bit 1 is Zero, bit 7 is Negative, the other six bits are storage (R18). -/
  p : Byte
  /-- `program_counter` (R13). -/
  pc : Addr
  /-- The run state (R19). -/
  run : RunState
  /-- The 65536 bytes of memory (R30). -/
  mem : Memory
  deriving DecidableEq, Repr

/-- The fatal conditions (`60_exceptions.md` R153, R141). -/
inductive Fault where
  /-- `ResolveNoAddressing` (R80, R142): raised by the resolver when it is given the NoAddressing tag.  Safe: the
  spec says the run is aborted and no state is defined after it; no instruction reaches it (R143). -/
  | resolveNoAddressing
  deriving DecidableEq, Repr

/-- The ways in which the model answers a step without giving it a meaning. -/
inductive Refusal where
  /-- The instruction has no meaning in the model.  Raised by no arm of `exec`: all 256 opcodes are modelled.  Safe. -/
  | notModelled (mnemonic : String)
  /-- The machine is not Running, so "a Halted state has no step" (`00_scope.md` R9, `41_execution_loop.md` R91).
  Raised by `step` alone.  Safe (log 6): nothing can be proved of a step that the core does not take. -/
  | halted
  deriving DecidableEq, Repr

/-- The machine right after reset: `power_on` (R160) and then `reset` (R164), whose vector read gives 0x0000 on
zero-filled memory (R165); the two leave the same state (log 5). -/
def State.reset : State where
  a := 0
  x := 0
  y := 0
  p := 0
  pc := 0
  run := .halted
  mem := []

end Sys2Proof.Machine
end

