-- ==== Sys2Proof/Machine/Ops.lean ====
section
/-! DEFINITION. The named operations over memory, registers and the program counter that the meanings share
(`20_memory.md` R30 to R36, `10_state.md` R13, R14, `41_execution_loop.md` R93, R94). This hardware takes no
exception and returns from none (`60_exceptions.md` R149, R151), so no such operation stands here: BRK only halts. -/

namespace Sys2Proof.Machine

/-- What one step or one meaning answers. -/
abbrev Answer := Host.Outcome State Fault Refusal

/-- What a cell that nothing has written holds: 0x00 from power-on (R30, R32; `10_state.md` R26). -/
def unwrittenByte : Byte := 0

/-- The byte the list gives for a cell key, and `unwrittenByte` for a key it does not list. -/
def Memory.byteAt : Memory → Nat → Byte
  | [], _ => unwrittenByte
  | (k, v) :: rest, key => if k = key then v else Memory.byteAt rest key

/-- The list without any entry for the key. -/
def Memory.erase : Memory → Nat → Memory
  | [], _ => []
  | (k, v) :: rest, key => if k = key then Memory.erase rest key else (k, v) :: Memory.erase rest key

/-- The list with the entry put before the first entry of a greater key. -/
def Memory.insert : Memory → Nat → Byte → Memory
  | [], key, v => [(key, v)]
  | (k, w) :: rest, key, v =>
    if key < k then (key, v) :: (k, w) :: rest else (k, w) :: Memory.insert rest key v

/-- `MemRead(addr, 1)` (R32): cannot fail and changes nothing. -/
def Memory.read (m : Memory) (addr : Addr) : Byte := m.byteAt addr.toNat

/-- `MemWrite(addr, 1, v)` (R33): the cell holds `v` and nothing else changes; a cell that comes to hold
`unwrittenByte` leaves the list, so that the form stays canonical. -/
def Memory.write (m : Memory) (addr : Addr) (v : Byte) : Memory :=
  if v = unwrittenByte then m.erase addr.toNat else (m.erase addr.toNat).insert addr.toNat v

/-- `zext_16(b)` of `00_scope.md` R6: the byte as an address in the zero page. -/
def zeroPageAddr (b : Byte) : Addr := b.setWidth 16

/-- `MemRead16(addr)` (R35): little-endian, the high byte's address wrapping modulo 65536 (log 2). -/
def Memory.read16 (m : Memory) (addr : Addr) : Addr := joinBytes (m.read (addr + 1)) (m.read addr)

/-- `MemRead16zp(p)` (R36): little-endian, the high byte's address wrapping inside the zero page. -/
def Memory.read16zp (m : Memory) (p : Byte) : Addr :=
  joinBytes (m.read (zeroPageAddr (p + 1))) (m.read (zeroPageAddr p))

/-- Consecutive byte writes from `addr` upward, modulo 65536, in list order. -/
def Memory.writeBytes : Memory → Addr → List Byte → Memory
  | m, _, [] => m
  | m, addr, b :: bs => Memory.writeBytes (m.write addr b) (addr + 1) bs

/-- Move `pc` forward by `n` bytes modulo 65536 (R14: the spec's decision D3, log 1). -/
def State.advance (s : State) (n : Nat) : State := { s with pc := s.pc + BitVec.ofNat 16 n }

/-- The universal fetch advance (`41_execution_loop.md` R93, R94). -/
def State.fetchAdvance (s : State) : State := s.advance 1

/-- The instruction at `pc` (R93, R95): the opcode byte alone selects it, and its operand bytes follow at
`pc + 1` and `pc + 2` modulo 65536 (R50, R62).  A fetch is an ordinary read of memory (R46, log 12). -/
def State.fetchInstr (s : State) : Instr :=
  instrOf (s.mem.read s.pc) (s.mem.read (s.pc + 1)) (s.mem.read (s.pc + 2))

/-- Write `A` (R11). -/
def State.setA (s : State) (v : Byte) : State := { s with a := v }

/-- Write `X` (R11). -/
def State.setX (s : State) (v : Byte) : State := { s with x := v }

/-- Write the memory cell at `addr` (R33). -/
def State.store (s : State) (addr : Addr) (v : Byte) : State := { s with mem := s.mem.write addr v }

/-- `run <- Halted` (`44_system.md` R131). -/
def State.halt (s : State) : State := { s with run := .halted }

/-- `run <- Running` (`70_reset_and_hazards.md` R166). -/
def State.startRun (s : State) : State := { s with run := .running }

end Sys2Proof.Machine
end

