-- ==== Sys2Proof/Machine/Flags.lean ====
section
/-! DEFINITION. The status flag updater (`41_execution_loop.md` R97, R98), the one flag computation of the hardware. -/

namespace Sys2Proof.Machine

/-- The byte with bit `i` set to `v` and every other bit kept. -/
def setBit (b : Byte) (i : Nat) (v : Bool) : Byte :=
  if v then b ||| (1#8 <<< i) else b &&& ~~~(1#8 <<< i)

/-- `updateZN(P, v)` (R97): Zero from `v = 0x00`, Negative from bit 7 of `v`, the other six bits of `P` kept (R18). -/
def updateZN (p v : Byte) : Byte :=
  setBit (setBit p Config.zBit (v == 0)) Config.nBit (v.getLsbD 7)

/-- `P <- updateZN(P, v)`. -/
def State.updateFlags (s : State) (v : Byte) : State := { s with p := updateZN s.p v }

end Sys2Proof.Machine
end

