-- ==== Sys2Proof/Machine/Operands.lean ====
section
/-! DEFINITION. The addressing-mode resolver (`40_address_resolver.md` R70 to R82): every operand form, the five that
no opcode uses (R82) and the NoAddressing sentinel (R80) included. It is split where the spec splits it: the operand
bytes at `pc` (R52), and the effective address they give. -/

namespace Sys2Proof.Machine

/-- A mode tag with the operand bytes it takes (R52). -/
inductive Operand where
  /-- The operand byte is the value itself. -/
  | immediate (value : Byte)
  | zeroPage (base : Byte)
  | zeroPageX (base : Byte)
  | zeroPageY (base : Byte)
  | absolute (base : Addr)
  | absoluteX (base : Addr)
  | absoluteY (base : Addr)
  /-- The operand byte, to which `X` is added, is a zero-page pointer. -/
  | indirectX (base : Byte)
  /-- The operand byte is a zero-page pointer to the base address. -/
  | indirectY (pointer : Byte)
  | noAddressing
  deriving DecidableEq, Repr

/-- The tag of an operand. -/
def Operand.mode : Operand → Mode
  | .immediate _ => .immediate
  | .zeroPage _ => .zeroPage
  | .zeroPageX _ => .zeroPageX
  | .zeroPageY _ => .zeroPageY
  | .absolute _ => .absolute
  | .absoluteX _ => .absoluteX
  | .absoluteY _ => .absoluteY
  | .indirectX _ => .indirectX
  | .indirectY _ => .indirectY
  | .noAddressing => .noAddressing

/-- The operand bytes a mode points at, which are "still at the program counter" when the resolver is called (R70). -/
def operandAt (mode : Mode) (s : State) : Operand :=
  match mode with
  | .immediate => .immediate (s.mem.read s.pc)
  | .zeroPage => .zeroPage (s.mem.read s.pc)
  | .zeroPageX => .zeroPageX (s.mem.read s.pc)
  | .zeroPageY => .zeroPageY (s.mem.read s.pc)
  | .absolute => .absolute (s.mem.read16 s.pc)
  | .absoluteX => .absoluteX (s.mem.read16 s.pc)
  | .absoluteY => .absoluteY (s.mem.read16 s.pc)
  | .indirectX => .indirectX (s.mem.read s.pc)
  | .indirectY => .indirectY (s.mem.read s.pc)
  | .noAddressing => .noAddressing

/-- The effective address of an operand, or the fatal condition (R71 to R80).  It reads registers and memory and
writes nothing (R81). -/
def effectiveAddress (o : Operand) (s : State) : Except Fault Addr :=
  match o with
  | .immediate _ => .ok s.pc
  | .zeroPage b => .ok (zeroPageAddr b)
  | .zeroPageX b => .ok (zeroPageAddr (b + s.x))
  | .zeroPageY b => .ok (zeroPageAddr (b + s.y))
  | .absolute base => .ok base
  | .absoluteX base => .ok (base + zeroPageAddr s.x)
  | .absoluteY base => .ok (base + zeroPageAddr s.y)
  | .indirectX b => .ok (s.mem.read16zp (b + s.x))
  | .indirectY ptr => .ok (s.mem.read16zp ptr + zeroPageAddr s.y)
  | .noAddressing => .error .resolveNoAddressing

/-- `resolve(mode)` (R70): the effective address of a mode, from its tag and the state alone. -/
def resolve (mode : Mode) (s : State) : Except Fault Addr := effectiveAddress (operandAt mode s) s

/-- The byte an operand stands for, given its effective address: the immediate byte itself (R52, log 13), and
otherwise the cell at the effective address. -/
def operandData (o : Operand) (ea : Addr) (s : State) : Byte :=
  match o with
  | .immediate v => v
  | .zeroPage _ | .zeroPageX _ | .zeroPageY _ | .absolute _ | .absoluteX _ | .absoluteY _
  | .indirectX _ | .indirectY _ | .noAddressing => s.mem.read ea

/-- Call the resolver once (R95), do the work at the effective address, then advance `pc` past the operand bytes
(`41_execution_loop.md` R96); a fatal condition ends the step before the work (R141, R142). -/
def withOperand (o : Operand) (work : Addr → State → State) (s : State) : Answer :=
  match effectiveAddress o s with
  | .error f => .fault f
  | .ok ea => .next ((work ea s).advance o.mode.operandBytes)

end Sys2Proof.Machine
end

