-- ==== Sys2Proof/Machine/LoadStore.lean ====
section
/-! DEFINITION. The load and store instructions (`42_load_store.md`). A meaning is written for the state after the
opcode fetch, in which `pc` is one past the opcode byte (`41_execution_loop.md` R93). -/

namespace Sys2Proof.Machine

/-- LDA's work: the operand's byte to `A`, then the flags from the new `A` (R110 to R112, R98). -/
def loadA (o : Operand) (s : State) : Answer :=
  withOperand o (fun ea t => (t.setA (operandData o ea t)).updateFlags (operandData o ea t)) s

/-- LDX's work: the operand's byte to `X`, then the flags from the new `X` (R113, R98). -/
def loadX (o : Operand) (s : State) : Answer :=
  withOperand o (fun ea t => (t.setX (operandData o ea t)).updateFlags (operandData o ea t)) s

/-- STA's work: `A` to the effective address, no flag (R114, R115, R18). -/
def storeA (o : Operand) (s : State) : Answer :=
  withOperand o (fun ea t => t.store ea t.a) s

/-- LDA Immediate (R110). -/
def execLdaImm (value : Byte) (s : State) : Answer := loadA (.immediate value) s

/-- LDA ZeroPage (R111). -/
def execLdaZp (base : Byte) (s : State) : Answer := loadA (.zeroPage base) s

/-- LDA Absolute (R112). -/
def execLdaAbs (target : Addr) (s : State) : Answer := loadA (.absolute target) s

/-- LDX Immediate (R113). -/
def execLdxImm (value : Byte) (s : State) : Answer := loadX (.immediate value) s

/-- STA ZeroPage (R114). -/
def execStaZp (base : Byte) (s : State) : Answer := storeA (.zeroPage base) s

/-- STA ZeroPage indexed by X (R115). -/
def execStaZpX (base : Byte) (s : State) : Answer := storeA (.zeroPageX base) s

end Sys2Proof.Machine
end

