-- ==== Sys2Proof/Machine/RegisterOps.lean ====
section
/-! DEFINITION. The register instructions (`43_register_ops.md`). They call no resolver and advance `pc` no further
than the opcode fetch did. -/

namespace Sys2Proof.Machine

/-- TAX (R120): copy `A` to `X`, flags from the new `X`. -/
def execTax (s : State) : Answer := .next ((s.setX s.a).updateFlags s.a)

/-- INX (R121): add 1 to `X` modulo 256, flags from the new `X`. -/
def execInx (s : State) : Answer := .next ((s.setX (s.x + 1)).updateFlags (s.x + 1))

end Sys2Proof.Machine
end

