-- ==== Sys2Proof/Machine/System.lean ====
section
/-! DEFINITION. NOP, BRK and what every unmapped opcode does (`44_system.md`). -/

namespace Sys2Proof.Machine

/-- NOP (R130): skip the byte after the opcode, unread.  DESIGN CHOICE of the spec (D5, log 3). -/
def execNop (s : State) : Answer := .next (s.advance Config.nopSkip)

/-- BRK (R131): halt; nothing is pushed, no vector is read, no flag changes. -/
def execBrk (s : State) : Answer := .next s.halt

/-- An unmapped opcode (R132): "no effect, no program-counter adjustment beyond the universal +1 fetch advance". -/
def doNothing (s : State) : Answer := .next s

end Sys2Proof.Machine
end

