-- ==== Sys2Proof/Machine/Unmapped.lean ====
section
/-! DEFINITION. The meanings of the 246 unmapped opcode bytes (`44_system.md` R132), one definition each over the
shared `doNothing`, so that one can be mended without the others. -/

namespace Sys2Proof.Machine

def execUnmapped01 (s : State) : Answer := doNothing s
def execUnmapped02 (s : State) : Answer := doNothing s
def execUnmapped03 (s : State) : Answer := doNothing s
def execUnmapped04 (s : State) : Answer := doNothing s
def execUnmapped05 (s : State) : Answer := doNothing s
def execUnmapped06 (s : State) : Answer := doNothing s
def execUnmapped07 (s : State) : Answer := doNothing s
def execUnmapped08 (s : State) : Answer := doNothing s
def execUnmapped09 (s : State) : Answer := doNothing s
def execUnmapped0A (s : State) : Answer := doNothing s
def execUnmapped0B (s : State) : Answer := doNothing s
def execUnmapped0C (s : State) : Answer := doNothing s
def execUnmapped0D (s : State) : Answer := doNothing s
def execUnmapped0E (s : State) : Answer := doNothing s
def execUnmapped0F (s : State) : Answer := doNothing s
def execUnmapped10 (s : State) : Answer := doNothing s
def execUnmapped11 (s : State) : Answer := doNothing s
def execUnmapped12 (s : State) : Answer := doNothing s
def execUnmapped13 (s : State) : Answer := doNothing s
def execUnmapped14 (s : State) : Answer := doNothing s
def execUnmapped15 (s : State) : Answer := doNothing s
def execUnmapped16 (s : State) : Answer := doNothing s
def execUnmapped17 (s : State) : Answer := doNothing s
def execUnmapped18 (s : State) : Answer := doNothing s
def execUnmapped19 (s : State) : Answer := doNothing s
def execUnmapped1A (s : State) : Answer := doNothing s
def execUnmapped1B (s : State) : Answer := doNothing s
def execUnmapped1C (s : State) : Answer := doNothing s
def execUnmapped1D (s : State) : Answer := doNothing s
def execUnmapped1E (s : State) : Answer := doNothing s
def execUnmapped1F (s : State) : Answer := doNothing s
def execUnmapped20 (s : State) : Answer := doNothing s
def execUnmapped21 (s : State) : Answer := doNothing s
def execUnmapped22 (s : State) : Answer := doNothing s
def execUnmapped23 (s : State) : Answer := doNothing s
def execUnmapped24 (s : State) : Answer := doNothing s
def execUnmapped25 (s : State) : Answer := doNothing s
def execUnmapped26 (s : State) : Answer := doNothing s
def execUnmapped27 (s : State) : Answer := doNothing s
def execUnmapped28 (s : State) : Answer := doNothing s
def execUnmapped29 (s : State) : Answer := doNothing s
def execUnmapped2A (s : State) : Answer := doNothing s
def execUnmapped2B (s : State) : Answer := doNothing s
def execUnmapped2C (s : State) : Answer := doNothing s
def execUnmapped2D (s : State) : Answer := doNothing s
def execUnmapped2E (s : State) : Answer := doNothing s
def execUnmapped2F (s : State) : Answer := doNothing s
def execUnmapped30 (s : State) : Answer := doNothing s
def execUnmapped31 (s : State) : Answer := doNothing s
def execUnmapped32 (s : State) : Answer := doNothing s
def execUnmapped33 (s : State) : Answer := doNothing s
def execUnmapped34 (s : State) : Answer := doNothing s
def execUnmapped35 (s : State) : Answer := doNothing s
def execUnmapped36 (s : State) : Answer := doNothing s
def execUnmapped37 (s : State) : Answer := doNothing s
def execUnmapped38 (s : State) : Answer := doNothing s
def execUnmapped39 (s : State) : Answer := doNothing s
def execUnmapped3A (s : State) : Answer := doNothing s
def execUnmapped3B (s : State) : Answer := doNothing s
def execUnmapped3C (s : State) : Answer := doNothing s
def execUnmapped3D (s : State) : Answer := doNothing s
def execUnmapped3E (s : State) : Answer := doNothing s
def execUnmapped3F (s : State) : Answer := doNothing s
def execUnmapped40 (s : State) : Answer := doNothing s
def execUnmapped41 (s : State) : Answer := doNothing s
def execUnmapped42 (s : State) : Answer := doNothing s
def execUnmapped43 (s : State) : Answer := doNothing s
def execUnmapped44 (s : State) : Answer := doNothing s
def execUnmapped45 (s : State) : Answer := doNothing s
def execUnmapped46 (s : State) : Answer := doNothing s
def execUnmapped47 (s : State) : Answer := doNothing s
def execUnmapped48 (s : State) : Answer := doNothing s
def execUnmapped49 (s : State) : Answer := doNothing s
def execUnmapped4A (s : State) : Answer := doNothing s
def execUnmapped4B (s : State) : Answer := doNothing s
def execUnmapped4C (s : State) : Answer := doNothing s
def execUnmapped4D (s : State) : Answer := doNothing s
def execUnmapped4E (s : State) : Answer := doNothing s
def execUnmapped4F (s : State) : Answer := doNothing s
def execUnmapped50 (s : State) : Answer := doNothing s
def execUnmapped51 (s : State) : Answer := doNothing s
def execUnmapped52 (s : State) : Answer := doNothing s
def execUnmapped53 (s : State) : Answer := doNothing s
def execUnmapped54 (s : State) : Answer := doNothing s
def execUnmapped55 (s : State) : Answer := doNothing s
def execUnmapped56 (s : State) : Answer := doNothing s
def execUnmapped57 (s : State) : Answer := doNothing s
def execUnmapped58 (s : State) : Answer := doNothing s
def execUnmapped59 (s : State) : Answer := doNothing s
def execUnmapped5A (s : State) : Answer := doNothing s
def execUnmapped5B (s : State) : Answer := doNothing s
def execUnmapped5C (s : State) : Answer := doNothing s
def execUnmapped5D (s : State) : Answer := doNothing s
def execUnmapped5E (s : State) : Answer := doNothing s
def execUnmapped5F (s : State) : Answer := doNothing s
def execUnmapped60 (s : State) : Answer := doNothing s
def execUnmapped61 (s : State) : Answer := doNothing s
def execUnmapped62 (s : State) : Answer := doNothing s
def execUnmapped63 (s : State) : Answer := doNothing s
def execUnmapped64 (s : State) : Answer := doNothing s
def execUnmapped65 (s : State) : Answer := doNothing s
def execUnmapped66 (s : State) : Answer := doNothing s
def execUnmapped67 (s : State) : Answer := doNothing s
def execUnmapped68 (s : State) : Answer := doNothing s
def execUnmapped69 (s : State) : Answer := doNothing s
def execUnmapped6A (s : State) : Answer := doNothing s
def execUnmapped6B (s : State) : Answer := doNothing s
def execUnmapped6C (s : State) : Answer := doNothing s
def execUnmapped6D (s : State) : Answer := doNothing s
def execUnmapped6E (s : State) : Answer := doNothing s
def execUnmapped6F (s : State) : Answer := doNothing s
def execUnmapped70 (s : State) : Answer := doNothing s
def execUnmapped71 (s : State) : Answer := doNothing s
def execUnmapped72 (s : State) : Answer := doNothing s
def execUnmapped73 (s : State) : Answer := doNothing s
def execUnmapped74 (s : State) : Answer := doNothing s
def execUnmapped75 (s : State) : Answer := doNothing s
def execUnmapped76 (s : State) : Answer := doNothing s
def execUnmapped77 (s : State) : Answer := doNothing s
def execUnmapped78 (s : State) : Answer := doNothing s
def execUnmapped79 (s : State) : Answer := doNothing s
def execUnmapped7A (s : State) : Answer := doNothing s
def execUnmapped7B (s : State) : Answer := doNothing s
def execUnmapped7C (s : State) : Answer := doNothing s
def execUnmapped7D (s : State) : Answer := doNothing s
def execUnmapped7E (s : State) : Answer := doNothing s
def execUnmapped7F (s : State) : Answer := doNothing s
def execUnmapped80 (s : State) : Answer := doNothing s
def execUnmapped81 (s : State) : Answer := doNothing s
def execUnmapped82 (s : State) : Answer := doNothing s
def execUnmapped83 (s : State) : Answer := doNothing s
def execUnmapped84 (s : State) : Answer := doNothing s
def execUnmapped86 (s : State) : Answer := doNothing s
def execUnmapped87 (s : State) : Answer := doNothing s
def execUnmapped88 (s : State) : Answer := doNothing s
def execUnmapped89 (s : State) : Answer := doNothing s
def execUnmapped8A (s : State) : Answer := doNothing s
def execUnmapped8B (s : State) : Answer := doNothing s
def execUnmapped8C (s : State) : Answer := doNothing s
def execUnmapped8D (s : State) : Answer := doNothing s
def execUnmapped8E (s : State) : Answer := doNothing s
def execUnmapped8F (s : State) : Answer := doNothing s
def execUnmapped90 (s : State) : Answer := doNothing s
def execUnmapped91 (s : State) : Answer := doNothing s
def execUnmapped92 (s : State) : Answer := doNothing s
def execUnmapped93 (s : State) : Answer := doNothing s
def execUnmapped94 (s : State) : Answer := doNothing s
def execUnmapped96 (s : State) : Answer := doNothing s
def execUnmapped97 (s : State) : Answer := doNothing s
def execUnmapped98 (s : State) : Answer := doNothing s
def execUnmapped99 (s : State) : Answer := doNothing s
def execUnmapped9A (s : State) : Answer := doNothing s
def execUnmapped9B (s : State) : Answer := doNothing s
def execUnmapped9C (s : State) : Answer := doNothing s
def execUnmapped9D (s : State) : Answer := doNothing s
def execUnmapped9E (s : State) : Answer := doNothing s
def execUnmapped9F (s : State) : Answer := doNothing s
def execUnmappedA0 (s : State) : Answer := doNothing s
def execUnmappedA1 (s : State) : Answer := doNothing s
def execUnmappedA3 (s : State) : Answer := doNothing s
def execUnmappedA4 (s : State) : Answer := doNothing s
def execUnmappedA6 (s : State) : Answer := doNothing s
def execUnmappedA7 (s : State) : Answer := doNothing s
def execUnmappedA8 (s : State) : Answer := doNothing s
def execUnmappedAB (s : State) : Answer := doNothing s
def execUnmappedAC (s : State) : Answer := doNothing s
def execUnmappedAE (s : State) : Answer := doNothing s
def execUnmappedAF (s : State) : Answer := doNothing s
def execUnmappedB0 (s : State) : Answer := doNothing s
def execUnmappedB1 (s : State) : Answer := doNothing s
def execUnmappedB2 (s : State) : Answer := doNothing s
def execUnmappedB3 (s : State) : Answer := doNothing s
def execUnmappedB4 (s : State) : Answer := doNothing s
def execUnmappedB5 (s : State) : Answer := doNothing s
def execUnmappedB6 (s : State) : Answer := doNothing s
def execUnmappedB7 (s : State) : Answer := doNothing s
def execUnmappedB8 (s : State) : Answer := doNothing s
def execUnmappedB9 (s : State) : Answer := doNothing s
def execUnmappedBA (s : State) : Answer := doNothing s
def execUnmappedBB (s : State) : Answer := doNothing s
def execUnmappedBC (s : State) : Answer := doNothing s
def execUnmappedBD (s : State) : Answer := doNothing s
def execUnmappedBE (s : State) : Answer := doNothing s
def execUnmappedBF (s : State) : Answer := doNothing s
def execUnmappedC0 (s : State) : Answer := doNothing s
def execUnmappedC1 (s : State) : Answer := doNothing s
def execUnmappedC2 (s : State) : Answer := doNothing s
def execUnmappedC3 (s : State) : Answer := doNothing s
def execUnmappedC4 (s : State) : Answer := doNothing s
def execUnmappedC5 (s : State) : Answer := doNothing s
def execUnmappedC6 (s : State) : Answer := doNothing s
def execUnmappedC7 (s : State) : Answer := doNothing s
def execUnmappedC8 (s : State) : Answer := doNothing s
def execUnmappedC9 (s : State) : Answer := doNothing s
def execUnmappedCA (s : State) : Answer := doNothing s
def execUnmappedCB (s : State) : Answer := doNothing s
def execUnmappedCC (s : State) : Answer := doNothing s
def execUnmappedCD (s : State) : Answer := doNothing s
def execUnmappedCE (s : State) : Answer := doNothing s
def execUnmappedCF (s : State) : Answer := doNothing s
def execUnmappedD0 (s : State) : Answer := doNothing s
def execUnmappedD1 (s : State) : Answer := doNothing s
def execUnmappedD2 (s : State) : Answer := doNothing s
def execUnmappedD3 (s : State) : Answer := doNothing s
def execUnmappedD4 (s : State) : Answer := doNothing s
def execUnmappedD5 (s : State) : Answer := doNothing s
def execUnmappedD6 (s : State) : Answer := doNothing s
def execUnmappedD7 (s : State) : Answer := doNothing s
def execUnmappedD8 (s : State) : Answer := doNothing s
def execUnmappedD9 (s : State) : Answer := doNothing s
def execUnmappedDA (s : State) : Answer := doNothing s
def execUnmappedDB (s : State) : Answer := doNothing s
def execUnmappedDC (s : State) : Answer := doNothing s
def execUnmappedDD (s : State) : Answer := doNothing s
def execUnmappedDE (s : State) : Answer := doNothing s
def execUnmappedDF (s : State) : Answer := doNothing s
def execUnmappedE0 (s : State) : Answer := doNothing s
def execUnmappedE1 (s : State) : Answer := doNothing s
def execUnmappedE2 (s : State) : Answer := doNothing s
def execUnmappedE3 (s : State) : Answer := doNothing s
def execUnmappedE4 (s : State) : Answer := doNothing s
def execUnmappedE5 (s : State) : Answer := doNothing s
def execUnmappedE6 (s : State) : Answer := doNothing s
def execUnmappedE7 (s : State) : Answer := doNothing s
def execUnmappedE9 (s : State) : Answer := doNothing s
def execUnmappedEB (s : State) : Answer := doNothing s
def execUnmappedEC (s : State) : Answer := doNothing s
def execUnmappedED (s : State) : Answer := doNothing s
def execUnmappedEE (s : State) : Answer := doNothing s
def execUnmappedEF (s : State) : Answer := doNothing s
def execUnmappedF0 (s : State) : Answer := doNothing s
def execUnmappedF1 (s : State) : Answer := doNothing s
def execUnmappedF2 (s : State) : Answer := doNothing s
def execUnmappedF3 (s : State) : Answer := doNothing s
def execUnmappedF4 (s : State) : Answer := doNothing s
def execUnmappedF5 (s : State) : Answer := doNothing s
def execUnmappedF6 (s : State) : Answer := doNothing s
def execUnmappedF7 (s : State) : Answer := doNothing s
def execUnmappedF8 (s : State) : Answer := doNothing s
def execUnmappedF9 (s : State) : Answer := doNothing s
def execUnmappedFA (s : State) : Answer := doNothing s
def execUnmappedFB (s : State) : Answer := doNothing s
def execUnmappedFC (s : State) : Answer := doNothing s
def execUnmappedFD (s : State) : Answer := doNothing s
def execUnmappedFE (s : State) : Answer := doNothing s
def execUnmappedFF (s : State) : Answer := doNothing s

end Sys2Proof.Machine
end

