-- ==== Sys2Proof/Machine/Dispatch.lean ====
section
/-! DEFINITION. The dispatch of `41_execution_loop.md` R93, one arm per constructor of `Instr`. `exec` is applied to the
state after the opcode fetch: `pc` is one past the opcode byte. -/

namespace Sys2Proof.Machine

def exec (i : Instr) (s : State) : Host.Outcome State Fault Refusal :=
  match i with
  | .ldaImm v => Sys2Proof.Machine.execLdaImm v s
  | .ldaZp b => Sys2Proof.Machine.execLdaZp b s
  | .ldaAbs t => Sys2Proof.Machine.execLdaAbs t s
  | .ldxImm v => Sys2Proof.Machine.execLdxImm v s
  | .staZp b => Sys2Proof.Machine.execStaZp b s
  | .staZpX b => Sys2Proof.Machine.execStaZpX b s
  | .tax => Sys2Proof.Machine.execTax s
  | .inx => Sys2Proof.Machine.execInx s
  | .nop => Sys2Proof.Machine.execNop s
  | .brk => Sys2Proof.Machine.execBrk s
  | .unmapped01 => Sys2Proof.Machine.execUnmapped01 s
  | .unmapped02 => Sys2Proof.Machine.execUnmapped02 s
  | .unmapped03 => Sys2Proof.Machine.execUnmapped03 s
  | .unmapped04 => Sys2Proof.Machine.execUnmapped04 s
  | .unmapped05 => Sys2Proof.Machine.execUnmapped05 s
  | .unmapped06 => Sys2Proof.Machine.execUnmapped06 s
  | .unmapped07 => Sys2Proof.Machine.execUnmapped07 s
  | .unmapped08 => Sys2Proof.Machine.execUnmapped08 s
  | .unmapped09 => Sys2Proof.Machine.execUnmapped09 s
  | .unmapped0A => Sys2Proof.Machine.execUnmapped0A s
  | .unmapped0B => Sys2Proof.Machine.execUnmapped0B s
  | .unmapped0C => Sys2Proof.Machine.execUnmapped0C s
  | .unmapped0D => Sys2Proof.Machine.execUnmapped0D s
  | .unmapped0E => Sys2Proof.Machine.execUnmapped0E s
  | .unmapped0F => Sys2Proof.Machine.execUnmapped0F s
  | .unmapped10 => Sys2Proof.Machine.execUnmapped10 s
  | .unmapped11 => Sys2Proof.Machine.execUnmapped11 s
  | .unmapped12 => Sys2Proof.Machine.execUnmapped12 s
  | .unmapped13 => Sys2Proof.Machine.execUnmapped13 s
  | .unmapped14 => Sys2Proof.Machine.execUnmapped14 s
  | .unmapped15 => Sys2Proof.Machine.execUnmapped15 s
  | .unmapped16 => Sys2Proof.Machine.execUnmapped16 s
  | .unmapped17 => Sys2Proof.Machine.execUnmapped17 s
  | .unmapped18 => Sys2Proof.Machine.execUnmapped18 s
  | .unmapped19 => Sys2Proof.Machine.execUnmapped19 s
  | .unmapped1A => Sys2Proof.Machine.execUnmapped1A s
  | .unmapped1B => Sys2Proof.Machine.execUnmapped1B s
  | .unmapped1C => Sys2Proof.Machine.execUnmapped1C s
  | .unmapped1D => Sys2Proof.Machine.execUnmapped1D s
  | .unmapped1E => Sys2Proof.Machine.execUnmapped1E s
  | .unmapped1F => Sys2Proof.Machine.execUnmapped1F s
  | .unmapped20 => Sys2Proof.Machine.execUnmapped20 s
  | .unmapped21 => Sys2Proof.Machine.execUnmapped21 s
  | .unmapped22 => Sys2Proof.Machine.execUnmapped22 s
  | .unmapped23 => Sys2Proof.Machine.execUnmapped23 s
  | .unmapped24 => Sys2Proof.Machine.execUnmapped24 s
  | .unmapped25 => Sys2Proof.Machine.execUnmapped25 s
  | .unmapped26 => Sys2Proof.Machine.execUnmapped26 s
  | .unmapped27 => Sys2Proof.Machine.execUnmapped27 s
  | .unmapped28 => Sys2Proof.Machine.execUnmapped28 s
  | .unmapped29 => Sys2Proof.Machine.execUnmapped29 s
  | .unmapped2A => Sys2Proof.Machine.execUnmapped2A s
  | .unmapped2B => Sys2Proof.Machine.execUnmapped2B s
  | .unmapped2C => Sys2Proof.Machine.execUnmapped2C s
  | .unmapped2D => Sys2Proof.Machine.execUnmapped2D s
  | .unmapped2E => Sys2Proof.Machine.execUnmapped2E s
  | .unmapped2F => Sys2Proof.Machine.execUnmapped2F s
  | .unmapped30 => Sys2Proof.Machine.execUnmapped30 s
  | .unmapped31 => Sys2Proof.Machine.execUnmapped31 s
  | .unmapped32 => Sys2Proof.Machine.execUnmapped32 s
  | .unmapped33 => Sys2Proof.Machine.execUnmapped33 s
  | .unmapped34 => Sys2Proof.Machine.execUnmapped34 s
  | .unmapped35 => Sys2Proof.Machine.execUnmapped35 s
  | .unmapped36 => Sys2Proof.Machine.execUnmapped36 s
  | .unmapped37 => Sys2Proof.Machine.execUnmapped37 s
  | .unmapped38 => Sys2Proof.Machine.execUnmapped38 s
  | .unmapped39 => Sys2Proof.Machine.execUnmapped39 s
  | .unmapped3A => Sys2Proof.Machine.execUnmapped3A s
  | .unmapped3B => Sys2Proof.Machine.execUnmapped3B s
  | .unmapped3C => Sys2Proof.Machine.execUnmapped3C s
  | .unmapped3D => Sys2Proof.Machine.execUnmapped3D s
  | .unmapped3E => Sys2Proof.Machine.execUnmapped3E s
  | .unmapped3F => Sys2Proof.Machine.execUnmapped3F s
  | .unmapped40 => Sys2Proof.Machine.execUnmapped40 s
  | .unmapped41 => Sys2Proof.Machine.execUnmapped41 s
  | .unmapped42 => Sys2Proof.Machine.execUnmapped42 s
  | .unmapped43 => Sys2Proof.Machine.execUnmapped43 s
  | .unmapped44 => Sys2Proof.Machine.execUnmapped44 s
  | .unmapped45 => Sys2Proof.Machine.execUnmapped45 s
  | .unmapped46 => Sys2Proof.Machine.execUnmapped46 s
  | .unmapped47 => Sys2Proof.Machine.execUnmapped47 s
  | .unmapped48 => Sys2Proof.Machine.execUnmapped48 s
  | .unmapped49 => Sys2Proof.Machine.execUnmapped49 s
  | .unmapped4A => Sys2Proof.Machine.execUnmapped4A s
  | .unmapped4B => Sys2Proof.Machine.execUnmapped4B s
  | .unmapped4C => Sys2Proof.Machine.execUnmapped4C s
  | .unmapped4D => Sys2Proof.Machine.execUnmapped4D s
  | .unmapped4E => Sys2Proof.Machine.execUnmapped4E s
  | .unmapped4F => Sys2Proof.Machine.execUnmapped4F s
  | .unmapped50 => Sys2Proof.Machine.execUnmapped50 s
  | .unmapped51 => Sys2Proof.Machine.execUnmapped51 s
  | .unmapped52 => Sys2Proof.Machine.execUnmapped52 s
  | .unmapped53 => Sys2Proof.Machine.execUnmapped53 s
  | .unmapped54 => Sys2Proof.Machine.execUnmapped54 s
  | .unmapped55 => Sys2Proof.Machine.execUnmapped55 s
  | .unmapped56 => Sys2Proof.Machine.execUnmapped56 s
  | .unmapped57 => Sys2Proof.Machine.execUnmapped57 s
  | .unmapped58 => Sys2Proof.Machine.execUnmapped58 s
  | .unmapped59 => Sys2Proof.Machine.execUnmapped59 s
  | .unmapped5A => Sys2Proof.Machine.execUnmapped5A s
  | .unmapped5B => Sys2Proof.Machine.execUnmapped5B s
  | .unmapped5C => Sys2Proof.Machine.execUnmapped5C s
  | .unmapped5D => Sys2Proof.Machine.execUnmapped5D s
  | .unmapped5E => Sys2Proof.Machine.execUnmapped5E s
  | .unmapped5F => Sys2Proof.Machine.execUnmapped5F s
  | .unmapped60 => Sys2Proof.Machine.execUnmapped60 s
  | .unmapped61 => Sys2Proof.Machine.execUnmapped61 s
  | .unmapped62 => Sys2Proof.Machine.execUnmapped62 s
  | .unmapped63 => Sys2Proof.Machine.execUnmapped63 s
  | .unmapped64 => Sys2Proof.Machine.execUnmapped64 s
  | .unmapped65 => Sys2Proof.Machine.execUnmapped65 s
  | .unmapped66 => Sys2Proof.Machine.execUnmapped66 s
  | .unmapped67 => Sys2Proof.Machine.execUnmapped67 s
  | .unmapped68 => Sys2Proof.Machine.execUnmapped68 s
  | .unmapped69 => Sys2Proof.Machine.execUnmapped69 s
  | .unmapped6A => Sys2Proof.Machine.execUnmapped6A s
  | .unmapped6B => Sys2Proof.Machine.execUnmapped6B s
  | .unmapped6C => Sys2Proof.Machine.execUnmapped6C s
  | .unmapped6D => Sys2Proof.Machine.execUnmapped6D s
  | .unmapped6E => Sys2Proof.Machine.execUnmapped6E s
  | .unmapped6F => Sys2Proof.Machine.execUnmapped6F s
  | .unmapped70 => Sys2Proof.Machine.execUnmapped70 s
  | .unmapped71 => Sys2Proof.Machine.execUnmapped71 s
  | .unmapped72 => Sys2Proof.Machine.execUnmapped72 s
  | .unmapped73 => Sys2Proof.Machine.execUnmapped73 s
  | .unmapped74 => Sys2Proof.Machine.execUnmapped74 s
  | .unmapped75 => Sys2Proof.Machine.execUnmapped75 s
  | .unmapped76 => Sys2Proof.Machine.execUnmapped76 s
  | .unmapped77 => Sys2Proof.Machine.execUnmapped77 s
  | .unmapped78 => Sys2Proof.Machine.execUnmapped78 s
  | .unmapped79 => Sys2Proof.Machine.execUnmapped79 s
  | .unmapped7A => Sys2Proof.Machine.execUnmapped7A s
  | .unmapped7B => Sys2Proof.Machine.execUnmapped7B s
  | .unmapped7C => Sys2Proof.Machine.execUnmapped7C s
  | .unmapped7D => Sys2Proof.Machine.execUnmapped7D s
  | .unmapped7E => Sys2Proof.Machine.execUnmapped7E s
  | .unmapped7F => Sys2Proof.Machine.execUnmapped7F s
  | .unmapped80 => Sys2Proof.Machine.execUnmapped80 s
  | .unmapped81 => Sys2Proof.Machine.execUnmapped81 s
  | .unmapped82 => Sys2Proof.Machine.execUnmapped82 s
  | .unmapped83 => Sys2Proof.Machine.execUnmapped83 s
  | .unmapped84 => Sys2Proof.Machine.execUnmapped84 s
  | .unmapped86 => Sys2Proof.Machine.execUnmapped86 s
  | .unmapped87 => Sys2Proof.Machine.execUnmapped87 s
  | .unmapped88 => Sys2Proof.Machine.execUnmapped88 s
  | .unmapped89 => Sys2Proof.Machine.execUnmapped89 s
  | .unmapped8A => Sys2Proof.Machine.execUnmapped8A s
  | .unmapped8B => Sys2Proof.Machine.execUnmapped8B s
  | .unmapped8C => Sys2Proof.Machine.execUnmapped8C s
  | .unmapped8D => Sys2Proof.Machine.execUnmapped8D s
  | .unmapped8E => Sys2Proof.Machine.execUnmapped8E s
  | .unmapped8F => Sys2Proof.Machine.execUnmapped8F s
  | .unmapped90 => Sys2Proof.Machine.execUnmapped90 s
  | .unmapped91 => Sys2Proof.Machine.execUnmapped91 s
  | .unmapped92 => Sys2Proof.Machine.execUnmapped92 s
  | .unmapped93 => Sys2Proof.Machine.execUnmapped93 s
  | .unmapped94 => Sys2Proof.Machine.execUnmapped94 s
  | .unmapped96 => Sys2Proof.Machine.execUnmapped96 s
  | .unmapped97 => Sys2Proof.Machine.execUnmapped97 s
  | .unmapped98 => Sys2Proof.Machine.execUnmapped98 s
  | .unmapped99 => Sys2Proof.Machine.execUnmapped99 s
  | .unmapped9A => Sys2Proof.Machine.execUnmapped9A s
  | .unmapped9B => Sys2Proof.Machine.execUnmapped9B s
  | .unmapped9C => Sys2Proof.Machine.execUnmapped9C s
  | .unmapped9D => Sys2Proof.Machine.execUnmapped9D s
  | .unmapped9E => Sys2Proof.Machine.execUnmapped9E s
  | .unmapped9F => Sys2Proof.Machine.execUnmapped9F s
  | .unmappedA0 => Sys2Proof.Machine.execUnmappedA0 s
  | .unmappedA1 => Sys2Proof.Machine.execUnmappedA1 s
  | .unmappedA3 => Sys2Proof.Machine.execUnmappedA3 s
  | .unmappedA4 => Sys2Proof.Machine.execUnmappedA4 s
  | .unmappedA6 => Sys2Proof.Machine.execUnmappedA6 s
  | .unmappedA7 => Sys2Proof.Machine.execUnmappedA7 s
  | .unmappedA8 => Sys2Proof.Machine.execUnmappedA8 s
  | .unmappedAB => Sys2Proof.Machine.execUnmappedAB s
  | .unmappedAC => Sys2Proof.Machine.execUnmappedAC s
  | .unmappedAE => Sys2Proof.Machine.execUnmappedAE s
  | .unmappedAF => Sys2Proof.Machine.execUnmappedAF s
  | .unmappedB0 => Sys2Proof.Machine.execUnmappedB0 s
  | .unmappedB1 => Sys2Proof.Machine.execUnmappedB1 s
  | .unmappedB2 => Sys2Proof.Machine.execUnmappedB2 s
  | .unmappedB3 => Sys2Proof.Machine.execUnmappedB3 s
  | .unmappedB4 => Sys2Proof.Machine.execUnmappedB4 s
  | .unmappedB5 => Sys2Proof.Machine.execUnmappedB5 s
  | .unmappedB6 => Sys2Proof.Machine.execUnmappedB6 s
  | .unmappedB7 => Sys2Proof.Machine.execUnmappedB7 s
  | .unmappedB8 => Sys2Proof.Machine.execUnmappedB8 s
  | .unmappedB9 => Sys2Proof.Machine.execUnmappedB9 s
  | .unmappedBA => Sys2Proof.Machine.execUnmappedBA s
  | .unmappedBB => Sys2Proof.Machine.execUnmappedBB s
  | .unmappedBC => Sys2Proof.Machine.execUnmappedBC s
  | .unmappedBD => Sys2Proof.Machine.execUnmappedBD s
  | .unmappedBE => Sys2Proof.Machine.execUnmappedBE s
  | .unmappedBF => Sys2Proof.Machine.execUnmappedBF s
  | .unmappedC0 => Sys2Proof.Machine.execUnmappedC0 s
  | .unmappedC1 => Sys2Proof.Machine.execUnmappedC1 s
  | .unmappedC2 => Sys2Proof.Machine.execUnmappedC2 s
  | .unmappedC3 => Sys2Proof.Machine.execUnmappedC3 s
  | .unmappedC4 => Sys2Proof.Machine.execUnmappedC4 s
  | .unmappedC5 => Sys2Proof.Machine.execUnmappedC5 s
  | .unmappedC6 => Sys2Proof.Machine.execUnmappedC6 s
  | .unmappedC7 => Sys2Proof.Machine.execUnmappedC7 s
  | .unmappedC8 => Sys2Proof.Machine.execUnmappedC8 s
  | .unmappedC9 => Sys2Proof.Machine.execUnmappedC9 s
  | .unmappedCA => Sys2Proof.Machine.execUnmappedCA s
  | .unmappedCB => Sys2Proof.Machine.execUnmappedCB s
  | .unmappedCC => Sys2Proof.Machine.execUnmappedCC s
  | .unmappedCD => Sys2Proof.Machine.execUnmappedCD s
  | .unmappedCE => Sys2Proof.Machine.execUnmappedCE s
  | .unmappedCF => Sys2Proof.Machine.execUnmappedCF s
  | .unmappedD0 => Sys2Proof.Machine.execUnmappedD0 s
  | .unmappedD1 => Sys2Proof.Machine.execUnmappedD1 s
  | .unmappedD2 => Sys2Proof.Machine.execUnmappedD2 s
  | .unmappedD3 => Sys2Proof.Machine.execUnmappedD3 s
  | .unmappedD4 => Sys2Proof.Machine.execUnmappedD4 s
  | .unmappedD5 => Sys2Proof.Machine.execUnmappedD5 s
  | .unmappedD6 => Sys2Proof.Machine.execUnmappedD6 s
  | .unmappedD7 => Sys2Proof.Machine.execUnmappedD7 s
  | .unmappedD8 => Sys2Proof.Machine.execUnmappedD8 s
  | .unmappedD9 => Sys2Proof.Machine.execUnmappedD9 s
  | .unmappedDA => Sys2Proof.Machine.execUnmappedDA s
  | .unmappedDB => Sys2Proof.Machine.execUnmappedDB s
  | .unmappedDC => Sys2Proof.Machine.execUnmappedDC s
  | .unmappedDD => Sys2Proof.Machine.execUnmappedDD s
  | .unmappedDE => Sys2Proof.Machine.execUnmappedDE s
  | .unmappedDF => Sys2Proof.Machine.execUnmappedDF s
  | .unmappedE0 => Sys2Proof.Machine.execUnmappedE0 s
  | .unmappedE1 => Sys2Proof.Machine.execUnmappedE1 s
  | .unmappedE2 => Sys2Proof.Machine.execUnmappedE2 s
  | .unmappedE3 => Sys2Proof.Machine.execUnmappedE3 s
  | .unmappedE4 => Sys2Proof.Machine.execUnmappedE4 s
  | .unmappedE5 => Sys2Proof.Machine.execUnmappedE5 s
  | .unmappedE6 => Sys2Proof.Machine.execUnmappedE6 s
  | .unmappedE7 => Sys2Proof.Machine.execUnmappedE7 s
  | .unmappedE9 => Sys2Proof.Machine.execUnmappedE9 s
  | .unmappedEB => Sys2Proof.Machine.execUnmappedEB s
  | .unmappedEC => Sys2Proof.Machine.execUnmappedEC s
  | .unmappedED => Sys2Proof.Machine.execUnmappedED s
  | .unmappedEE => Sys2Proof.Machine.execUnmappedEE s
  | .unmappedEF => Sys2Proof.Machine.execUnmappedEF s
  | .unmappedF0 => Sys2Proof.Machine.execUnmappedF0 s
  | .unmappedF1 => Sys2Proof.Machine.execUnmappedF1 s
  | .unmappedF2 => Sys2Proof.Machine.execUnmappedF2 s
  | .unmappedF3 => Sys2Proof.Machine.execUnmappedF3 s
  | .unmappedF4 => Sys2Proof.Machine.execUnmappedF4 s
  | .unmappedF5 => Sys2Proof.Machine.execUnmappedF5 s
  | .unmappedF6 => Sys2Proof.Machine.execUnmappedF6 s
  | .unmappedF7 => Sys2Proof.Machine.execUnmappedF7 s
  | .unmappedF8 => Sys2Proof.Machine.execUnmappedF8 s
  | .unmappedF9 => Sys2Proof.Machine.execUnmappedF9 s
  | .unmappedFA => Sys2Proof.Machine.execUnmappedFA s
  | .unmappedFB => Sys2Proof.Machine.execUnmappedFB s
  | .unmappedFC => Sys2Proof.Machine.execUnmappedFC s
  | .unmappedFD => Sys2Proof.Machine.execUnmappedFD s
  | .unmappedFE => Sys2Proof.Machine.execUnmappedFE s
  | .unmappedFF => Sys2Proof.Machine.execUnmappedFF s

end Sys2Proof.Machine
end

