-- ==== Sys2Proof/Machine/Step.lean ====
section
/-! DEFINITION. One step of the core (`41_execution_loop.md` R91, R93) and the placing of an instruction where the next
step fetches it. -/

namespace Sys2Proof.Machine

/-- One step: enabled exactly while Running (R91); fetch, advance `pc` by 1, dispatch (R93, R94).  A Halted state has
no step (`00_scope.md` R9): refused, by name (log 6). -/
def step (s : State) : Host.Outcome State Fault Refusal :=
  match s.run with
  | .running => exec s.fetchInstr s.fetchAdvance
  | .halted => .refused .halted

/-- `s` with the instruction word `w` at `pc` and the run started, so that the next step runs it: what the host does
with memory writes (`70_reset_and_hazards.md` R168) and a `run` request (R166) (log 7). -/
def State.withFetchWord (s : State) (nbits w : Nat) : State :=
  { s with mem := s.mem.writeBytes s.pc (tableBytes nbits w), run := .running }

end Sys2Proof.Machine
end

