-- ==== Sys2Proof/Machine/Port.lean ====
section
/-! DEFINITION. The memory port (`10_state.md` R23): the byte transactions one step issues, in order. The list of
transactions is an observation of a step, no state (R20), and no program can see it (log 14). -/

namespace Sys2Proof.Machine

/-- One event on the memory port: exactly one byte moves (R23). -/
inductive Transaction where
  | read (addr : Addr)
  | write (addr : Addr) (v : Byte)
  deriving DecidableEq, Repr

/-- The event is a write. -/
def Transaction.isWrite : Transaction → Bool
  | .read _ => false
  | .write _ _ => true

/-- What the resolver reads for an operand, in order (R71 to R80): the operand bytes, then the pointer's two bytes. -/
def operandReads (o : Operand) (s : State) : List Transaction :=
  match o with
  | .immediate _ | .noAddressing => []
  | .zeroPage _ | .zeroPageX _ | .zeroPageY _ => [.read s.pc]
  | .absolute _ | .absoluteX _ | .absoluteY _ => [.read s.pc, .read (s.pc + 1)]
  | .indirectX b =>
    [.read s.pc, .read (zeroPageAddr (b + s.x)), .read (zeroPageAddr (b + s.x + 1))]
  | .indirectY ptr => [.read s.pc, .read (zeroPageAddr ptr), .read (zeroPageAddr (ptr + 1))]

/-- The transactions of `resolve(mode)` (R71 to R80). -/
def resolveTransactions (mode : Mode) (s : State) : List Transaction :=
  operandReads (operandAt mode s) s

/-- The resolver's reads, then the data access at the effective address; after a fatal condition no access. -/
def accessTransactions (o : Operand) (access : Addr → Transaction) (s : State) : List Transaction :=
  match effectiveAddress o s with
  | .error _ => operandReads o s
  | .ok ea => operandReads o s ++ [access ea]

/-- The transactions of an instruction after its opcode fetch: one data read for a load, one data write for a store
(R38), none for the instructions that do not call the resolver (R95, R120, R121, R130 to R132). -/
def instrTransactions (i : Instr) (s : State) : List Transaction :=
  match i with
  | .ldaImm v | .ldxImm v => accessTransactions (.immediate v) .read s
  | .ldaZp b => accessTransactions (.zeroPage b) .read s
  | .ldaAbs t => accessTransactions (.absolute t) .read s
  | .staZp b => accessTransactions (.zeroPage b) (.write · s.a) s
  | .staZpX b => accessTransactions (.zeroPageX b) (.write · s.a) s
  | .tax | .inx | .nop | .brk
  | .unmapped01 | .unmapped02 | .unmapped03 | .unmapped04 | .unmapped05 | .unmapped06 | .unmapped07 | .unmapped08
  | .unmapped09 | .unmapped0A | .unmapped0B | .unmapped0C | .unmapped0D | .unmapped0E | .unmapped0F | .unmapped10
  | .unmapped11 | .unmapped12 | .unmapped13 | .unmapped14 | .unmapped15 | .unmapped16 | .unmapped17 | .unmapped18
  | .unmapped19 | .unmapped1A | .unmapped1B | .unmapped1C | .unmapped1D | .unmapped1E | .unmapped1F | .unmapped20
  | .unmapped21 | .unmapped22 | .unmapped23 | .unmapped24 | .unmapped25 | .unmapped26 | .unmapped27 | .unmapped28
  | .unmapped29 | .unmapped2A | .unmapped2B | .unmapped2C | .unmapped2D | .unmapped2E | .unmapped2F | .unmapped30
  | .unmapped31 | .unmapped32 | .unmapped33 | .unmapped34 | .unmapped35 | .unmapped36 | .unmapped37 | .unmapped38
  | .unmapped39 | .unmapped3A | .unmapped3B | .unmapped3C | .unmapped3D | .unmapped3E | .unmapped3F | .unmapped40
  | .unmapped41 | .unmapped42 | .unmapped43 | .unmapped44 | .unmapped45 | .unmapped46 | .unmapped47 | .unmapped48
  | .unmapped49 | .unmapped4A | .unmapped4B | .unmapped4C | .unmapped4D | .unmapped4E | .unmapped4F | .unmapped50
  | .unmapped51 | .unmapped52 | .unmapped53 | .unmapped54 | .unmapped55 | .unmapped56 | .unmapped57 | .unmapped58
  | .unmapped59 | .unmapped5A | .unmapped5B | .unmapped5C | .unmapped5D | .unmapped5E | .unmapped5F | .unmapped60
  | .unmapped61 | .unmapped62 | .unmapped63 | .unmapped64 | .unmapped65 | .unmapped66 | .unmapped67 | .unmapped68
  | .unmapped69 | .unmapped6A | .unmapped6B | .unmapped6C | .unmapped6D | .unmapped6E | .unmapped6F | .unmapped70
  | .unmapped71 | .unmapped72 | .unmapped73 | .unmapped74 | .unmapped75 | .unmapped76 | .unmapped77 | .unmapped78
  | .unmapped79 | .unmapped7A | .unmapped7B | .unmapped7C | .unmapped7D | .unmapped7E | .unmapped7F | .unmapped80
  | .unmapped81 | .unmapped82 | .unmapped83 | .unmapped84 | .unmapped86 | .unmapped87 | .unmapped88 | .unmapped89
  | .unmapped8A | .unmapped8B | .unmapped8C | .unmapped8D | .unmapped8E | .unmapped8F | .unmapped90 | .unmapped91
  | .unmapped92 | .unmapped93 | .unmapped94 | .unmapped96 | .unmapped97 | .unmapped98 | .unmapped99 | .unmapped9A
  | .unmapped9B | .unmapped9C | .unmapped9D | .unmapped9E | .unmapped9F | .unmappedA0 | .unmappedA1 | .unmappedA3
  | .unmappedA4 | .unmappedA6 | .unmappedA7 | .unmappedA8 | .unmappedAB | .unmappedAC | .unmappedAE | .unmappedAF
  | .unmappedB0 | .unmappedB1 | .unmappedB2 | .unmappedB3 | .unmappedB4 | .unmappedB5 | .unmappedB6 | .unmappedB7
  | .unmappedB8 | .unmappedB9 | .unmappedBA | .unmappedBB | .unmappedBC | .unmappedBD | .unmappedBE | .unmappedBF
  | .unmappedC0 | .unmappedC1 | .unmappedC2 | .unmappedC3 | .unmappedC4 | .unmappedC5 | .unmappedC6 | .unmappedC7
  | .unmappedC8 | .unmappedC9 | .unmappedCA | .unmappedCB | .unmappedCC | .unmappedCD | .unmappedCE | .unmappedCF
  | .unmappedD0 | .unmappedD1 | .unmappedD2 | .unmappedD3 | .unmappedD4 | .unmappedD5 | .unmappedD6 | .unmappedD7
  | .unmappedD8 | .unmappedD9 | .unmappedDA | .unmappedDB | .unmappedDC | .unmappedDD | .unmappedDE | .unmappedDF
  | .unmappedE0 | .unmappedE1 | .unmappedE2 | .unmappedE3 | .unmappedE4 | .unmappedE5 | .unmappedE6 | .unmappedE7
  | .unmappedE9 | .unmappedEB | .unmappedEC | .unmappedED | .unmappedEE | .unmappedEF | .unmappedF0 | .unmappedF1
  | .unmappedF2 | .unmappedF3 | .unmappedF4 | .unmappedF5 | .unmappedF6 | .unmappedF7 | .unmappedF8 | .unmappedF9
  | .unmappedFA | .unmappedFB | .unmappedFC | .unmappedFD | .unmappedFE | .unmappedFF => []

/-- The transactions of one step (R93): the opcode read, then the instruction's; none while Halted (R91). -/
def stepTransactions (s : State) : List Transaction :=
  match s.run with
  | .running => .read s.pc :: instrTransactions s.fetchInstr s.fetchAdvance
  | .halted => []

/-- Memory after a list of transactions: each write takes effect in order (R32, R33, R44). -/
def applyTransactions : List Transaction → Memory → Memory
  | [], m => m
  | .read _ :: ts, m => applyTransactions ts m
  | .write addr v :: ts, m => applyTransactions ts (m.write addr v)

/-- Two memories hold the same byte in every cell that the transactions read. -/
def agreeOnReads (ts : List Transaction) (m n : Memory) : Prop :=
  ∀ addr, .read addr ∈ ts → m.read addr = n.read addr

end Sys2Proof.Machine
end

