-- ==== Sys2Proof/WellFormed.lean ====
section
/-! DEFINITION. Well-formedness of what reaches the machine from outside. Every `Instr` is well formed by its
type (an operand has exactly the values its bytes can hold, and all 256 opcode bytes are instructions, R9, R57), so
the checks are on byte lists: one instruction's encoding, and a program that `load` accepts. -/

namespace Sys2Proof

/-- The list is the bytes of exactly one instruction: an opcode byte and as many bytes as it owns (R50, R51). -/
def encodingWellFormed : List Byte → Bool
  | [] => false
  | op :: rest => rest.length == opcodeAdvance op

/-- The program fits between 0x8000 and the top of the address space, so that `load` accepts it (R161, R162). -/
def programFits (program : List Byte) : Bool :=
  program.length ≤ Config.loadCapacity

end Sys2Proof
end

