-- ==== Sys2Proof/Machine/Control.lean ====
section
/-! DEFINITION. The host's side of the block: the control and observation ports (`10_state.md` R24, R25, R27), the
procedures behind the requests (`70_reset_and_hazards.md` R160 to R168) and the table of moves R170. The host acts
between runs only, so nothing here is part of a step (log 8). -/

namespace Sys2Proof.Machine

/-- `power_on` (R160): every register and every cell zero, Halted. -/
def powerOn : State where
  a := 0x00
  x := 0x00
  y := 0x00
  p := 0x00
  pc := 0x0000
  run := .halted
  mem := []

/-- `reset` (R164): `A`, `X` and `P` zero, `pc` from the reset vector; `Y`, `run` and memory untouched (R165, log 5). -/
def requestReset (s : State) : State :=
  { s with a := 0x00, x := 0x00, p := 0x00, pc := s.mem.read16 Config.resetVector }

/-- The transactions of `reset`, in order (R164). -/
def resetTransactions : List Transaction :=
  [.read Config.resetVector, .read (Config.resetVector + 1)]

/-- Memory after a successful `load` (R161): the image at 0x8000, then the vector 0x8000 low byte first. -/
def loadedMemory (program : List Byte) (m : Memory) : Memory :=
  ((m.writeBytes Config.loadBase program).write Config.resetVector 0x00).write (Config.resetVector + 1) 0x80

/-- `load` (R161), or nothing when the program is too long (R162: `LoadCapacity`). -/
def loadProgram (program : List Byte) (s : State) : Option State :=
  if programFits program then some { s with mem := loadedMemory program s.mem } else none

/-- The 8-bit registers the host may read and write while Halted (R25, R27). -/
inductive RegName where
  | a
  | x
  | y
  | p
  deriving DecidableEq, Repr

/-- A register read on the observation port (R25). -/
def readReg (s : State) : RegName → Byte
  | .a => s.a
  | .x => s.x
  | .y => s.y
  | .p => s.p

/-- A host write to a register (R27, log 20). -/
def writeReg (s : State) (r : RegName) (v : Byte) : State :=
  match r with
  | .a => { s with a := v }
  | .x => { s with x := v }
  | .y => { s with y := v }
  | .p => { s with p := v }

/-- The host's moves: the rows of R170. -/
inductive Request where
  | powerOn
  | readMemory (addr : Addr)
  | writeMemory (addr : Addr) (v : Byte)
  | readRegister (r : RegName)
  | readPc
  | writeRegister (r : RegName) (v : Byte)
  | writePc (v : Addr)
  | load (program : List Byte)
  | reset
  | run
  | loadAndRun (program : List Byte)
  deriving DecidableEq, Repr

/-- What the host gets back (R170). -/
inductive Reply where
  /-- The move was made and returns nothing. -/
  | done
  /-- The byte of a memory or register read. -/
  | byte (v : Byte)
  /-- The value of `pc`. -/
  | address (v : Addr)
  /-- `LoadCapacity` (`60_exceptions.md` R145, R153): the program is too long. -/
  | loadCapacity
  /-- The host has no such move now (R24, R170). -/
  | noMove
  deriving DecidableEq, Repr

/-- The block as the host sees it (R24): a state, whose `run` it sees, or the fatal indication, after which no state is
defined (`60_exceptions.md` R141, log 9). -/
inductive Board where
  | live (s : State)
  | fatal (f : Fault)
  deriving DecidableEq, Repr

/-- `load_and_run` (R167): load, then reset, then run; it stops at a failed load (the spec's decision D20, log 10). -/
def loadAndRun (program : List Byte) (s : State) : State × Reply :=
  match loadProgram program s with
  | some t => ((requestReset t).startRun, .done)
  | none => (s, .loadCapacity)

/-- A move of the host on a Halted machine (R170). -/
def serveHalted (r : Request) (s : State) : State × Reply :=
  match r with
  | .powerOn => (Sys2Proof.Machine.powerOn, .done)
  | .readMemory addr => (s, .byte (s.mem.read addr))
  | .writeMemory addr v => (s.store addr v, .done)
  | .readRegister r => (s, .byte (readReg s r))
  | .readPc => (s, .address s.pc)
  | .writeRegister r v => (writeReg s r v, .done)
  | .writePc v => ({ s with pc := v }, .done)
  | .load program =>
    match loadProgram program s with
    | some t => (t, .done)
    | none => (s, .loadCapacity)
  | .reset => (requestReset s, .done)
  | .run => (s.startRun, .done)
  | .loadAndRun program => Sys2Proof.Machine.loadAndRun program s

/-- A request of the host, at any moment: while Running it has no move (R24, R170), and after a fatal condition
`power_on` is its only one (R141). -/
def serve (r : Request) (b : Board) : Board × Reply :=
  match b with
  | .fatal f => if r = .powerOn then (.live powerOn, .done) else (.fatal f, .noMove)
  | .live s =>
    match s.run with
    | .running => (.live s, .noMove)
    | .halted => (.live (serveHalted r s).1, (serveHalted r s).2)

/-- The block after a step's answer (R90): a fatal condition aborts the run and leaves only its indication (R141); a
refused step leaves the block as it is. -/
def boardAfter (s : State) (answer : Answer) : Board :=
  match answer with
  | .next t => .live t
  | .fault f => .fatal f
  | .refused _ => .live s

/-- The core's own move (R90, R91): a step while Running, nothing while Halted, nothing after a fatal condition. -/
def tick (b : Board) : Board :=
  match b with
  | .fatal f => .fatal f
  | .live s => boardAfter s (step s)

end Sys2Proof.Machine
end

