-- ==== Sys2Proof/Safety.lean ====
section
/-! DEFINITION. The terms in which claims speak of runs: the invariant of the model, the end of a run
(`41_execution_loop.md` R92), and a run that meets no fatal condition (`60_exceptions.md` R141). -/

namespace Sys2Proof

open Machine

/-- The invariant of the model: memory is in its canonical form.  It rules out no state of the hardware, since every
contents of the 65536 cells has exactly one canonical list. -/
abbrev Inv (s : State) : Prop := Memory.wf s.mem

/-- The invariant, of the block as the host sees it. -/
abbrev BoardInv (b : Board) : Prop :=
  match b with
  | .live s => Inv s
  | .fatal _ => True

/-- The end of a run (R92): the first Halted state, if `fuel` steps reach it. -/
def endOfRun : Nat → State → Option State
  | 0, s => if s.run = .halted then some s else none
  | fuel + 1, s =>
    if s.run = .halted then some s
    else
      match step s with
      | .next t => endOfRun fuel t
      | .fault _ => none
      | .refused _ => none

/-- The run from `s` ends at `t` (R92). -/
def EndsAt (s t : State) : Prop := ∃ fuel, endOfRun fuel s = some t

/-- No step from `s` on, however many, meets a fatal condition (R141). -/
def NeverFaults (s : State) : Prop := ∀ k f, Host.Core.run core k s ≠ .fault f

end Sys2Proof
end

