-- ==== Sys2Proof/Certificates/Slice0/Obligations.lean ====
section
/-! DEFINITION. The statements for the provers. Statements about `exec` speak of the state after the opcode fetch (`pc`
one past the opcode byte, `41_execution_loop.md` R93); statements about `step` speak of whole steps. -/

open Sys2Proof Sys2Proof.Machine

/-- Encodings written out byte by byte from R50 and R55 decode to the instructions they stand for.  Rests on the
spec's inferences R53 and R54 and on NOP's length D5 (logs 3, 4, 15). -/
def Obligations.WrittenOutBytesDecode : Prop :=
  decode [0xA9, 0x05] = .ok (.ldaImm 0x05, []) ∧
  decode [0xA5, 0x10, 0x00] = .ok (.ldaZp 0x10, [0x00]) ∧
  decode [0xAD, 0x34, 0x12, 0xE8] = .ok (.ldaAbs 0x1234, [0xE8]) ∧
  decode [0xA2, 0x01] = .ok (.ldxImm 0x01, []) ∧
  decode [0x85, 0x10] = .ok (.staZp 0x10, []) ∧
  decode [0x95, 0xFF] = .ok (.staZpX 0xFF, []) ∧
  decode [0xAA, 0xE8] = .ok (.tax, [0xE8]) ∧
  decode [0xE8] = .ok (.inx, []) ∧
  decode [0xEA, 0x37, 0x00] = .ok (.nop, [0x00]) ∧
  decode [0x00, 0xFF] = .ok (.brk, [0xFF]) ∧
  decode [0x8D, 0x00, 0x02] = .ok (.unmapped8D, [0x00, 0x02]) ∧
  decode [0xB5, 0x10] = .ok (.unmappedB5, [0x10])

/-- Decoding what the encoder wrote gives the instruction back, with every operand at every value, and leaves what
follows: R50, R52, R55, R57 (NOP's two bytes are D5, the byte 0xAD is D6: logs 3, 4). -/
def Obligations.DecodeInvertsEncode : Prop :=
  ∀ (i : Instr) (rest : List Byte), decode (encode i ++ rest) = .ok (i, rest)

/-- Bytes that decode are the ones the encoder writes for the instruction read, but for the byte NOP skips, which
may be any (R50, R59, R130; NOP's form rests on D5, log 3). -/
def Obligations.EncodeInvertsDecode : Prop :=
  ∀ (bytes rest : List Byte) (i : Instr), decode bytes = .ok (i, rest) →
    (i ≠ .nop → bytes = encode i ++ rest) ∧
    (i = .nop → ∃ skipped, bytes = 0xEA :: skipped :: rest)

/-- The opcode byte alone decides how many bytes the instruction takes, and decoding stops only where they are missing
(R50, R51, R55).  NOP's one byte after the opcode byte is the spec's decision D5 (log 3), the byte 0xAD its decision D6
(log 4), and the two refusals are the model's own (log 19). -/
def Obligations.OpcodeByteDecidesLength : Prop :=
  decode [] = .error .noBytes ∧
  ∀ (op : Byte) (rest : List Byte),
    let adv := if op ∈ [0xA9, 0xA5, 0xA2, 0x85, 0x95, 0xEA] then 1 else if op = 0xAD then 2 else 0
    (rest.length < adv → decode (op :: rest) = .error (.operandMissing op)) ∧
    (adv ≤ rest.length → ∃ i, decode (op :: rest) = .ok (i, rest.drop adv) ∧ i.opcode = op)

/-- R32 and R33: a read returns the byte last written to the cell, or 0x00 from power-on, and a write changes its own
cell only. -/
def Obligations.ReadReturnsLastWrite : Prop :=
  (∀ addr, Memory.read powerOn.mem addr = 0x00) ∧
  (∀ (m : Memory) (addr other : Addr) (v : Byte),
    (m.write addr v).read other = if other = addr then v else m.read other) ∧
  ∀ (m : Memory) (writes : List (Addr × Byte)) (addr : Addr),
    (writes.foldl (fun n w => n.write w.1 w.2) m).read addr =
      match writes.reverse.find? (fun w => w.1 == addr) with
      | some w => w.2
      | none => m.read addr

/-- Two canonical memories that hold the same byte in every one of the 65536 cells are equal data: the model's list
form (log 11) stands for the array of R30 without loss or redundancy. -/
def Obligations.CanonicalMemoryIsExtensional : Prop :=
  ∀ m n : Memory, m.wf → n.wf → (∀ addr, m.read addr = n.read addr) → m = n

/-- Every step keeps the model's invariant, the canonical form of memory (log 11), from every state that has it. -/
def Obligations.StepKeepsMemoryCanonical : Prop :=
  ∀ s t : State, Inv s → step s = .next t → Inv t

/-- The invariant holds at reset and at power-on. -/
def Obligations.ResetMemoryIsCanonical : Prop :=
  Inv State.reset ∧ BoardInv (.live powerOn)

/-- Every host move, and every move of the core, keeps the invariant (R170, log 11). -/
def Obligations.HostMovesKeepMemoryCanonical : Prop :=
  ∀ b : Board, BoardInv b → (∀ r, BoardInv (serve r b).1) ∧ BoardInv (tick b)

/-- The state after power-on and after reset: R26, R160, R164, R165.  That `run` is Halted there is the spec's own
decision D10 (log 16), and that the model's reset state is power-on followed by reset is the model's reading (log 5). -/
def Obligations.PowerOnAndResetValues : Prop :=
  State.reset = powerOn ∧ requestReset powerOn = State.reset ∧
  State.reset.a = 0x00 ∧ State.reset.x = 0x00 ∧ State.reset.y = 0x00 ∧ State.reset.p = 0x00 ∧
  State.reset.pc = 0x0000 ∧ State.reset.run = .halted ∧
  ∀ addr, State.reset.mem.read addr = 0x00

/-- R164: `reset` zeroes `A`, `X` and `P` and reads the vector low byte first.  That it touches nothing else, `Y`
included, is R165 and R26, DEDUCED (log 5). -/
def Obligations.ResetLoadsVectorAndKeepsY : Prop :=
  ∀ s : State,
    (requestReset s).a = 0x00 ∧ (requestReset s).x = 0x00 ∧ (requestReset s).p = 0x00 ∧
    (requestReset s).pc = joinBytes (s.mem.read 0xFFFD) (s.mem.read 0xFFFC) ∧
    (requestReset s).y = s.y ∧ (requestReset s).run = s.run ∧ (requestReset s).mem = s.mem ∧
    resetTransactions = [.read 0xFFFC, .read 0xFFFD]

/-- R161: a program that fits is copied to 0x8000, then the vector 0x8000 is written low byte first; no register, no
other cell changes. -/
def Obligations.LoadPlacesProgramAndVector : Prop :=
  ∀ (program : List Byte) (s : State), program.length ≤ 0x8000 →
    let m := loadedMemory program s.mem
    loadProgram program s = some { s with mem := m } ∧
    m.read 0xFFFC = 0x00 ∧ m.read 0xFFFD = 0x80 ∧
    (∀ (k : Nat) (hk : k < program.length), k ≠ 0x7FFC → k ≠ 0x7FFD →
      m.read (BitVec.ofNat 16 (0x8000 + k)) = program[k]) ∧
    ∀ addr : Addr, addr.toNat < 0x8000 ∨ 0x8000 + program.length ≤ addr.toNat →
      addr ≠ 0xFFFC → addr ≠ 0xFFFD → m.read addr = s.mem.read addr

/-- R162: a program of more than 0x8000 bytes is reported as `LoadCapacity`; that nothing is written, and that
`load_and_run` stops there, are the spec's own decisions D8 and D20 (log 10). -/
def Obligations.OversizedLoadChangesNothing : Prop :=
  ∀ (program : List Byte) (s : State), 0x8000 < program.length → s.run = .halted →
    loadProgram program s = none ∧
    serve (.load program) (.live s) = (.live s, .loadCapacity) ∧
    serve (.loadAndRun program) (.live s) = (.live s, .loadCapacity)

/-- R167: after a successful `load_and_run` the run starts at 0x8000 with `A`, `X` and `P` zero, `Y` as it was, and the
loaded memory. -/
def Obligations.LoadAndRunStartsAtImage : Prop :=
  ∀ (program : List Byte) (s : State), program.length ≤ 0x8000 → s.run = .halted →
    serve (.loadAndRun program) (.live s) =
      (.live { a := 0x00, x := 0x00, y := s.y, p := 0x00, pc := 0x8000, run := .running,
               mem := loadedMemory program s.mem }, .done)

/-- The table of the host's moves R170, every row (with R25, R27, R161, R162, R164, R166 to R168), and that there is none
during a run (R24) and only `power_on` after a fatal condition (R141).  Rests on the spec's decisions D7, D8, D9, D11 and
D20 (logs 8, 9, 10, 20) and on the reading of `reset` in log 5. -/
def Obligations.HostMovesFollowTheTable : Prop :=
  (∀ s : State, s.run = .halted →
    serve .powerOn (.live s) = (.live powerOn, .done) ∧
    (∀ addr, serve (.readMemory addr) (.live s) = (.live s, .byte (s.mem.read addr))) ∧
    (∀ addr v, serve (.writeMemory addr v) (.live s) = (.live { s with mem := s.mem.write addr v }, .done)) ∧
    serve (.readRegister .a) (.live s) = (.live s, .byte s.a) ∧
    serve (.readRegister .x) (.live s) = (.live s, .byte s.x) ∧
    serve (.readRegister .y) (.live s) = (.live s, .byte s.y) ∧
    serve (.readRegister .p) (.live s) = (.live s, .byte s.p) ∧
    serve .readPc (.live s) = (.live s, .address s.pc) ∧
    (∀ v, serve (.writeRegister .a v) (.live s) = (.live { s with a := v }, .done)) ∧
    (∀ v, serve (.writeRegister .x v) (.live s) = (.live { s with x := v }, .done)) ∧
    (∀ v, serve (.writeRegister .y v) (.live s) = (.live { s with y := v }, .done)) ∧
    (∀ v, serve (.writeRegister .p v) (.live s) = (.live { s with p := v }, .done)) ∧
    (∀ v, serve (.writePc v) (.live s) = (.live { s with pc := v }, .done)) ∧
    (∀ program : List Byte, program.length ≤ 0x8000 →
      serve (.load program) (.live s) = (.live { s with mem := loadedMemory program s.mem }, .done) ∧
      serve (.loadAndRun program) (.live s) =
        (.live { requestReset { s with mem := loadedMemory program s.mem } with run := .running }, .done)) ∧
    (∀ program : List Byte, 0x8000 < program.length →
      serve (.load program) (.live s) = (.live s, .loadCapacity) ∧
      serve (.loadAndRun program) (.live s) = (.live s, .loadCapacity)) ∧
    serve .reset (.live s) = (.live (requestReset s), .done) ∧
    serve .run (.live s) = (.live { s with run := .running }, .done)) ∧
  (∀ (r : Request) (s : State), s.run = .running → serve r (.live s) = (.live s, .noMove)) ∧
  (∀ f : Fault, serve .powerOn (.fatal f) = (.live powerOn, .done)) ∧
  ∀ (r : Request) (f : Fault), r ≠ .powerOn → serve r (.fatal f) = (.fatal f, .noMove)

/-- R91: a step is enabled exactly while Running; then the host has no move; while Halted the core takes no step and
the core's move leaves the state alone. -/
def Obligations.StepEnabledExactlyWhileRunning : Prop :=
  ∀ s : State,
    ((∃ t, step s = .next t) ↔ s.run = .running) ∧
    (s.run = .running → (∃ t, tick (.live s) = .live t ∧ step s = .next t) ∧
      ∀ r, serve r (.live s) = (.live s, .noMove)) ∧
    (s.run = .halted → tick (.live s) = .live s)

/-- How the model answers a step that is not enabled: a refusal of its own name (log 6; the spec says only that a Halted
state has no step, R9 and R91). -/
def Obligations.HaltedStepIsRefused : Prop :=
  ∀ s : State, s.run = .halted → step s = .refused .halted

/-- R90: the transitions of the run state, and that there is no other.  That the host changes nothing while Running is
R24 and the spec's decision D11 (log 8), and that a fatal condition leaves an indication and no state is R141 and D7
(log 9). -/
def Obligations.RunStateTransitions : Prop :=
  ∀ s : State,
    (s.run = .halted →
      (∃ t, (serve .run (.live s)).1 = .live t ∧ t.run = .running) ∧
      tick (.live s) = .live s ∧
      ∀ r, r ≠ .run → (∀ program, r ≠ .loadAndRun program) →
        ∃ t, (serve r (.live s)).1 = .live t ∧ t.run = .halted) ∧
    (s.run = .running →
      (s.mem.read s.pc ≠ 0x00 → ∃ t, tick (.live s) = .live t ∧ t.run = .running) ∧
      (s.mem.read s.pc = 0x00 → ∃ t, tick (.live s) = .live t ∧ t.run = .halted) ∧
      (∀ r, (serve r (.live s)).1 = .live s)) ∧
    tick (.live s) = boardAfter s (step s) ∧
    ∀ f, boardAfter s (.fault f) = .fatal f ∧ tick (.fatal f) = .fatal f

/-- No instruction, no step and no run meets a fatal condition: the spec's inference R143, and R144 (log 9). -/
def Obligations.NoInstructionIsFatal : Prop :=
  (∀ (i : Instr) (s : State) (f : Fault), exec i s ≠ .fault f) ∧
  (∀ (s : State) (f : Fault), step s ≠ .fault f) ∧
  ∀ s : State, NeverFaults s

/-- When the bytes at `pc` decode to an instruction, a step is that instruction's execution after the universal fetch
advance (R93, R94; every step moves `pc` past the opcode byte first). -/
def Obligations.StepRunsDecodedInstruction : Prop :=
  ∀ (s : State) (i : Instr) (rest : List Byte), s.run = .running →
    decode [s.mem.read s.pc, s.mem.read (s.pc + 1), s.mem.read (s.pc + 2)] = .ok (i, rest) →
    step s = exec i { s with pc := s.pc + 1 }

/-- LDA Immediate (R110). -/
def Obligations.LdaImmediateLoadsOperandByte : Prop :=
  ∀ (v : Byte) (s : State),
    exec (.ldaImm v) s = .next { s with a := v, p := updateZN s.p v, pc := s.pc + 1 } ∧
    instrTransactions (.ldaImm v) s = [.read s.pc]

/-- LDA ZeroPage (R111). -/
def Obligations.LdaZeroPageLoadsCell : Prop :=
  ∀ (b : Byte) (s : State),
    let v := s.mem.read (b.setWidth 16)
    exec (.ldaZp b) s = .next { s with a := v, p := updateZN s.p v, pc := s.pc + 1 } ∧
    instrTransactions (.ldaZp b) s = [.read s.pc, .read (b.setWidth 16)]

/-- LDA Absolute (R112). -/
def Obligations.LdaAbsoluteLoadsCell : Prop :=
  ∀ (target : Addr) (s : State),
    let v := s.mem.read target
    exec (.ldaAbs target) s = .next { s with a := v, p := updateZN s.p v, pc := s.pc + 2 } ∧
    instrTransactions (.ldaAbs target) s = [.read s.pc, .read (s.pc + 1), .read target]

/-- LDX Immediate (R113). -/
def Obligations.LdxImmediateLoadsOperandByte : Prop :=
  ∀ (v : Byte) (s : State),
    exec (.ldxImm v) s = .next { s with x := v, p := updateZN s.p v, pc := s.pc + 1 } ∧
    instrTransactions (.ldxImm v) s = [.read s.pc]

/-- STA ZeroPage (R114): no flag changes, whatever is stored. -/
def Obligations.StaZeroPageStoresA : Prop :=
  ∀ (b : Byte) (s : State),
    exec (.staZp b) s = .next { s with mem := s.mem.write (b.setWidth 16) s.a, pc := s.pc + 1 } ∧
    (s.mem.write (b.setWidth 16) s.a).read (b.setWidth 16) = s.a ∧
    instrTransactions (.staZp b) s = [.read s.pc, .write (b.setWidth 16) s.a]

/-- STA ZeroPage indexed by X (R115): the sum wraps inside the zero page. -/
def Obligations.StaZeroPageXStoresA : Prop :=
  ∀ (b : Byte) (s : State),
    let ea : Addr := BitVec.ofNat 16 ((b.toNat + s.x.toNat) % 256)
    exec (.staZpX b) s = .next { s with mem := s.mem.write ea s.a, pc := s.pc + 1 } ∧
    (s.mem.write ea s.a).read ea = s.a ∧
    instrTransactions (.staZpX b) s = [.read s.pc, .write ea s.a]

/-- TAX (R120). -/
def Obligations.TaxCopiesAToX : Prop :=
  ∀ s : State,
    exec .tax s = .next { s with x := s.a, p := updateZN s.p s.a } ∧ instrTransactions .tax s = []

/-- INX (R121): modulo 256. -/
def Obligations.InxAddsOneModulo256 : Prop :=
  ∀ s : State,
    let v : Byte := BitVec.ofNat 8 ((s.x.toNat + 1) % 256)
    exec .inx s = .next { s with x := v, p := updateZN s.p v } ∧ instrTransactions .inx s = []

/-- NOP (R130): only `pc` moves, by one byte past the opcode byte, which is not read.  The length rests on the spec's
own decision D5 (log 3). -/
def Obligations.NopSkipsOneUnreadByte : Prop :=
  (∀ s : State, exec .nop s = .next { s with pc := s.pc + 1 } ∧ instrTransactions .nop s = []) ∧
  ∀ s : State, s.run = .running → s.mem.read s.pc = 0xEA →
    step s = .next { s with pc := s.pc + 2 } ∧ stepTransactions s = [.read s.pc]

/-- BRK (R131): halts, leaves `pc` one past its byte and everything else alone, and is the only instruction that halts. -/
def Obligations.BrkOnlyHalts : Prop :=
  decode [0x00] = .ok (.brk, []) ∧
  (∀ s : State, exec .brk s = .next { s with run := .halted }) ∧
  (∀ s : State, s.run = .running → s.mem.read s.pc = 0x00 →
    step s = .next { s with pc := s.pc + 1, run := .halted } ∧ stepTransactions s = [.read s.pc] ∧
    serve .run (.live { s with pc := s.pc + 1, run := .halted }) =
      (.live { s with pc := s.pc + 1 }, .done)) ∧
  ∀ (i : Instr) (s t : State), s.run = .running → exec i s = .next t → t.run = .halted → i = .brk

/-- All 246 unmapped opcodes, `unmapped01` to `unmappedFF` (R132): the instruction does nothing.  The extent of the
unmapped space is the spec's decision D12 (log 15), the ten bytes it leaves out R53 and D6 (log 4). -/
def Obligations.UnmappedInstructionDoesNothing : Prop :=
  ∀ (i : Instr) (s : State),
    i.opcode ∉ [0xA9, 0xA5, 0xAD, 0xA2, 0x85, 0x95, 0xAA, 0xE8, 0xEA, 0x00] →
    exec i s = .next s ∧ instrTransactions i s = []

/-- R132: a step on an unmapped opcode byte moves `pc` by one and does nothing else.  That every byte outside the ten is
such a byte is R57 and the spec's decision D12 (log 15); the ten bytes are R53 and D6 (log 4). -/
def Obligations.UnmappedByteIsOneByteNoOp : Prop :=
  ∀ s : State, s.run = .running →
    s.mem.read s.pc ∉ [0xA9, 0xA5, 0xAD, 0xA2, 0x85, 0x95, 0xAA, 0xE8, 0xEA, 0x00] →
    step s = .next { s with pc := s.pc + 1 } ∧ stepTransactions s = [.read s.pc]

/-- R97: the flag updater, bit by bit and as the mask formula. -/
def Obligations.FlagUpdaterRule : Prop :=
  ∀ p v : Byte,
    ((updateZN p v).getLsbD 1 = true ↔ v = 0x00) ∧
    (updateZN p v).getLsbD 7 = v.getLsbD 7 ∧
    (∀ k, k ≠ 1 → k ≠ 7 → (updateZN p v).getLsbD k = p.getLsbD k) ∧
    updateZN p v = (p &&& 0x7D) ||| (if v = 0x00 then 0x02 else 0x00) ||| (v &&& 0x80)

/-- The flag updater never leaves Zero and Negative both set (the spec's inference in R97). -/
def Obligations.ZeroAndNegativeNeverBothSet : Prop :=
  ∀ p v : Byte, ¬ ((updateZN p v).getLsbD 1 = true ∧ (updateZN p v).getLsbD 7 = true)

/-- R16 and R17: after LDA, LDX, TAX and INX the Zero and Negative flags are those of the value in the destination
register; no other instruction writes them.  The instructions are named by their opcode bytes (R55; log 4). -/
def Obligations.FlagsFollowDestinationRegister : Prop :=
  ∀ (i : Instr) (s t : State), exec i s = .next t →
    (i.opcode ∈ [0xA9, 0xA5, 0xAD] →
      (t.p.getLsbD 1 = true ↔ t.a = 0x00) ∧ t.p.getLsbD 7 = t.a.getLsbD 7) ∧
    (i.opcode ∈ [0xA2, 0xAA, 0xE8] →
      (t.p.getLsbD 1 = true ↔ t.x = 0x00) ∧ t.p.getLsbD 7 = t.x.getLsbD 7) ∧
    (i.opcode ∉ [0xA9, 0xA5, 0xAD, 0xA2, 0xAA, 0xE8] →
      t.p.getLsbD 1 = s.p.getLsbD 1 ∧ t.p.getLsbD 7 = s.p.getLsbD 7)

/-- R18: no instruction changes bits 6, 5, 4, 3, 2 and 0 of `P`; STA, NOP, BRK and unmapped opcodes change no bit;
`reset` and power-on write zeros (R164, R160), and neither `load` nor `run` writes `P` (R161, R166).  The instructions
are named by their opcode bytes (R55; log 4). -/
def Obligations.InertStatusBitsKept : Prop :=
  (∀ (i : Instr) (s t : State), exec i s = .next t →
    (∀ k ∈ [6, 5, 4, 3, 2, 0], t.p.getLsbD k = s.p.getLsbD k) ∧
    (i.opcode ∉ [0xA9, 0xA5, 0xAD, 0xA2, 0xAA, 0xE8] → t.p = s.p)) ∧
  (∀ s : State, (requestReset s).p = 0x00) ∧ powerOn.p = 0x00 ∧
  (∀ s : State, s.startRun.p = s.p) ∧
  ∀ (program : List Byte) (s t : State), loadProgram program s = some t → t.p = s.p

/-- The frame of LDA and LDX: registers, inert status bits, `run` and every byte of memory but the destination
register, Zero, Negative and `pc` (opcode bytes: log 4). -/
def Obligations.LoadFrame : Prop :=
  ∀ (i : Instr) (s t : State), exec i s = .next t → i.opcode ∈ [0xA9, 0xA5, 0xAD, 0xA2] →
    (i.opcode ≠ 0xA2 → t.x = s.x) ∧ (i.opcode = 0xA2 → t.a = s.a) ∧ t.y = s.y ∧ t.run = s.run ∧
    (∀ k, k ≠ 1 → k ≠ 7 → t.p.getLsbD k = s.p.getLsbD k) ∧
    ∀ addr, t.mem.read addr = s.mem.read addr

/-- The frame of STA: every register, all of `P`, `run`, and every byte of memory outside the one at the effective
address, which is computed as the meaning computes it. -/
def Obligations.StoreFrame : Prop :=
  (∀ (b : Byte) (s t : State), exec (.staZp b) s = .next t →
    t.a = s.a ∧ t.x = s.x ∧ t.y = s.y ∧ t.p = s.p ∧ t.run = s.run ∧
    ∀ ea, effectiveAddress (.zeroPage b) s = .ok ea →
      ∀ addr, addr ≠ ea → t.mem.read addr = s.mem.read addr) ∧
  ∀ (b : Byte) (s t : State), exec (.staZpX b) s = .next t →
    t.a = s.a ∧ t.x = s.x ∧ t.y = s.y ∧ t.p = s.p ∧ t.run = s.run ∧
    ∀ ea, effectiveAddress (.zeroPageX b) s = .ok ea →
      ∀ addr, addr ≠ ea → t.mem.read addr = s.mem.read addr

/-- The frame of the instructions that do not call the resolver: TAX and INX change `X`, Zero and Negative only, NOP
`pc` only, BRK `run` only, an unmapped opcode nothing (opcode bytes: logs 4, 15). -/
def Obligations.NoOperandFrame : Prop :=
  ∀ (i : Instr) (s t : State), exec i s = .next t → i.opcode ∉ [0xA9, 0xA5, 0xAD, 0xA2, 0x85, 0x95] →
    t.a = s.a ∧ t.y = s.y ∧ (∀ addr, t.mem.read addr = s.mem.read addr) ∧
    (∀ k, k ≠ 1 → k ≠ 7 → t.p.getLsbD k = s.p.getLsbD k) ∧
    (i.opcode ∉ [0xAA, 0xE8] → t.x = s.x ∧ t.p = s.p) ∧
    (i.opcode ≠ 0xEA → t.pc = s.pc) ∧
    (i.opcode ≠ 0x00 → t.run = s.run)

/-- No step writes `Y` and none reads it: the run of a step with another `Y` differs in `Y` alone (the spec's inference
R12). -/
def Obligations.YIsNeitherReadNorWritten : Prop :=
  ∀ s t : State, step s = .next t →
    t.y = s.y ∧ ∀ y' : Byte, step { s with y := y' } = .next { t with y := y' }

/-- `pc` moves by 1, 2 or 3 bytes as the opcode byte says, modulo 65536 (R55, R96, R100; the wrap is D3, NOP's two bytes
D5, the byte 0xAD D6: logs 1, 3, 4). -/
def Obligations.PcAdvancesByInstructionLength : Prop :=
  ∀ s t : State, step s = .next t →
    let op := s.mem.read s.pc
    (op ∈ [0xA9, 0xA5, 0xA2, 0x85, 0x95, 0xEA] → t.pc = s.pc + 2) ∧
    (op = 0xAD → t.pc = s.pc + 3) ∧
    (op ∉ [0xA9, 0xA5, 0xA2, 0x85, 0x95, 0xEA, 0xAD] → t.pc = s.pc + 1)

/-- R92: a run that ends, ends in the state that a 0x00 opcode gives: `pc` one past that byte and everything else as the
last instruction before it left it.  (`run` as an element of the state is the spec's decision D10, log 16.) -/
def Obligations.RunEndsJustPastZeroOpcode : Prop :=
  ∀ s t : State, s.run = .running → EndsAt s t →
    ∃ k u, Host.Core.run core k s = .next u ∧ u.run = .running ∧ u.mem.read u.pc = 0x00 ∧
      t = { u with pc := u.pc + 1, run := .halted }

/-- R101: a run ends if and only if some step of it fetches 0x00 as an opcode (the spec's inference). -/
def Obligations.RunEndsExactlyWhenZeroFetched : Prop :=
  ∀ s : State, s.run = .running →
    ((∃ t, EndsAt s t) ↔
      ∃ k u, Host.Core.run core k s = .next u ∧ u.run = .running ∧ u.mem.read u.pc = 0x00)

/-- R41, R12, R18 over whole runs, from every state: however many steps run, nothing at or above 0x0100 is written, `Y`
is as it was, and so are the six inert status bits. -/
def Obligations.RunsWriteOnlyTheZeroPage : Prop :=
  ∀ (k : Nat) (s t : State), Host.Core.run core k s = .next t →
    (∀ addr : Addr, 0x100 ≤ addr.toNat → t.mem.read addr = s.mem.read addr) ∧
    t.y = s.y ∧ t.p &&& 0x7D = s.p &&& 0x7D

/-- R71, R72: the effective address of Immediate and ZeroPage and the resolver's reads. -/
def Obligations.ImmediateAndZeroPageAddress : Prop :=
  ∀ s : State,
    resolve .immediate s = .ok s.pc ∧ resolveTransactions .immediate s = [] ∧
    resolve .zeroPage s = .ok (BitVec.ofNat 16 (s.mem.read s.pc).toNat) ∧
    resolveTransactions .zeroPage s = [.read s.pc]

/-- R74, R75: ZeroPage indexed by X and by Y: an 8-bit sum, zero-extended; no opcode uses the latter. -/
def Obligations.IndexedZeroPageAddress : Prop :=
  (∀ op : Byte, opcodeMode op ≠ .zeroPageY) ∧
  ∀ s : State,
    resolve .zeroPageX s = .ok (BitVec.ofNat 16 (((s.mem.read s.pc).toNat + s.x.toNat) % 256)) ∧
    resolveTransactions .zeroPageX s = [.read s.pc] ∧
    resolve .zeroPageY s = .ok (BitVec.ofNat 16 (((s.mem.read s.pc).toNat + s.y.toNat) % 256)) ∧
    resolveTransactions .zeroPageY s = [.read s.pc]

/-- R73, R76, R77: the Absolute modes: little-endian, 16-bit sums.  The wrap of `pc + 1` rests on the spec's decision
D4 (log 2). -/
def Obligations.AbsoluteAddresses : Prop :=
  ∀ s : State,
    let lo := (s.mem.read s.pc).toNat
    let hi := (s.mem.read (s.pc + 1)).toNat
    resolve .absolute s = .ok (BitVec.ofNat 16 (256 * hi + lo)) ∧
    resolve .absoluteX s = .ok (BitVec.ofNat 16 ((256 * hi + lo + s.x.toNat) % 65536)) ∧
    resolve .absoluteY s = .ok (BitVec.ofNat 16 ((256 * hi + lo + s.y.toNat) % 65536)) ∧
    ∀ mode ∈ [Mode.absolute, .absoluteX, .absoluteY],
      resolveTransactions mode s = [.read s.pc, .read (s.pc + 1)]

/-- R78, R79: the Indirect modes: the pointer's second byte, and X's sum with the pointer, wrap inside the zero page;
Y is added in 16 bits.  No opcode uses them. -/
def Obligations.IndirectAddresses : Prop :=
  (∀ op : Byte, opcodeMode op ≠ .indirectX ∧ opcodeMode op ≠ .indirectY) ∧
  ∀ s : State,
    let b := (s.mem.read s.pc).toNat
    let zp := fun n : Nat => BitVec.ofNat 16 (n % 256)
    let word := fun n : Nat => 256 * (s.mem.read (zp (n + 1))).toNat + (s.mem.read (zp n)).toNat
    resolve .indirectX s = .ok (BitVec.ofNat 16 (word (b + s.x.toNat))) ∧
    resolveTransactions .indirectX s =
      [.read s.pc, .read (zp (b + s.x.toNat)), .read (zp (b + s.x.toNat + 1))] ∧
    resolve .indirectY s = .ok (BitVec.ofNat 16 ((word b + s.y.toNat) % 65536)) ∧
    resolveTransactions .indirectY s = [.read s.pc, .read (zp b), .read (zp (b + 1))]

/-- R142: resolving NoAddressing is fatal, before any memory read and before any register is written: a load or a store
on it answers the fault. -/
def Obligations.NoAddressingIsFatalBeforeAccess : Prop :=
  ∀ s : State,
    resolve .noAddressing s = .error .resolveNoAddressing ∧
    resolveTransactions .noAddressing s = [] ∧
    loadA .noAddressing s = .fault .resolveNoAddressing ∧
    loadX .noAddressing s = .fault .resolveNoAddressing ∧
    storeA .noAddressing s = .fault .resolveNoAddressing

/-- A step on each opcode that calls the resolver is the pseudocode of its rule, word for word, with `resolve(mode)`
applied after the fetch advance (R93, R95, R110 to R115; the opcode bytes are the inferences R53 and R54, log 4).  So the
decoded operand that an `Instr` carries is what the resolver reads at `pc` (log 13). -/
def Obligations.StepFollowsResolverPseudocode : Prop :=
  ∀ s : State, s.run = .running →
    let op := s.mem.read s.pc
    let s1 : State := { s with pc := s.pc + 1 }
    let lda := fun (mode : Mode) (n : Addr) => ∃ ea, resolve mode s1 = .ok ea ∧
      step s = .next { s1 with a := s.mem.read ea, p := updateZN s.p (s.mem.read ea), pc := s1.pc + n }
    let sta := fun (mode : Mode) => ∃ ea, resolve mode s1 = .ok ea ∧
      step s = .next { s1 with mem := s.mem.write ea s.a, pc := s1.pc + 1 }
    (op = 0xA9 → lda .immediate 1) ∧
    (op = 0xA5 → lda .zeroPage 1) ∧
    (op = 0xAD → lda .absolute 2) ∧
    (op = 0xA2 → ∃ ea, resolve .immediate s1 = .ok ea ∧
      step s = .next { s1 with x := s.mem.read ea, p := updateZN s.p (s.mem.read ea), pc := s1.pc + 1 }) ∧
    (op = 0x85 → sta .zeroPage) ∧
    (op = 0x95 → sta .zeroPageX)

/-- What a step does depends on memory only through the cells its transactions read (R23, R32): on another memory that
agrees on those, the step issues the same transactions, leaves the same registers, and writes the same cells.  In
particular no step depends on the byte NOP skips (D5, log 3) or on bytes past the instruction (the list of transactions
is the model's observation, log 14). -/
def Obligations.StepDependsOnlyOnItsReads : Prop :=
  ∀ (s t : State) (m : Memory), step s = .next t → agreeOnReads (stepTransactions s) s.mem m →
    stepTransactions { s with mem := m } = stepTransactions s ∧
    step { s with mem := m } = .next { t with mem := applyTransactions (stepTransactions s) m }

/-- The memory after a step is the one its transactions leave, a step writes at most one cell, that cell is in the zero
page and takes `A` (R38, R41, R44; log 14). -/
def Obligations.StepWritesAreItsTransactions : Prop :=
  ∀ s t : State, step s = .next t →
    t.mem = applyTransactions (stepTransactions s) s.mem ∧
    (stepTransactions s).head? = some (.read s.pc) ∧
    (∀ addr v, .write addr v ∈ stepTransactions s → addr.toNat < 0x100 ∧ v = s.a) ∧
    ((stepTransactions s).filter Transaction.isWrite).length ≤ 1

/-- R46: a byte stored by STA, in either form, is what the very next fetch reads from its cell, as the opcode byte or as
either byte after it (the spec's decision D15, log 12). -/
def Obligations.StoreIsSeenByNextFetch : Prop :=
  let seen := fun (o : Operand) (s t : State) => ∀ ea, effectiveAddress o s = .ok ea →
    (t.pc = ea → t.fetchInstr.opcode = s.a) ∧
    (t.pc + 1 = ea → t.fetchInstr = instrOf (t.mem.read t.pc) s.a (t.mem.read (t.pc + 2))) ∧
    (t.pc + 2 = ea → t.fetchInstr = instrOf (t.mem.read t.pc) (t.mem.read (t.pc + 1)) s.a)
  (∀ (b : Byte) (s t : State), exec (.staZp b) s = .next t → seen (.zeroPage b) s t) ∧
  ∀ (b : Byte) (s t : State), exec (.staZpX b) s = .next t → seen (.zeroPageX b) s t
end

