-- ==== Sys2Proof/Laws/Memory.lean ====
section
/-! SUPPORT. The laws of memory: what a read after a write gives, and that every memory operation keeps the canonical
form. -/

namespace Sys2Proof.Machine

theorem Memory.byteAt_erase (m : Memory) (key k : Nat) :
    (m.erase key).byteAt k = if k = key then unwrittenByte else m.byteAt k := by
  induction m with
  | nil => simp [Memory.erase, Memory.byteAt]
  | cons c rest ih =>
    obtain ⟨j, w⟩ := c
    by_cases hj : j = key
    · subst hj
      by_cases hk : k = j
      · subst hk
        simp [Memory.erase, ih]
      · simp [Memory.erase, ih, Memory.byteAt, hk, Ne.symm hk]
    · by_cases hk : j = k
      · subst hk
        simp [Memory.erase, Memory.byteAt, hj]
      · simp [Memory.erase, Memory.byteAt, hj, hk, ih]

/-- Inserting a key that the list does not hold changes what that key reads as, and nothing else. -/
theorem Memory.byteAt_insert (m : Memory) (key k : Nat) (v : Byte) (fresh : ∀ c ∈ m, c.1 ≠ key) :
    (m.insert key v).byteAt k = if k = key then v else m.byteAt k := by
  induction m with
  | nil => simp [Memory.insert, Memory.byteAt, eq_comm]
  | cons c rest ih =>
    obtain ⟨j, w⟩ := c
    have hj : j ≠ key := fresh (j, w) (by simp)
    by_cases hlt : key < j
    · simp [Memory.insert, hlt, Memory.byteAt, eq_comm]
    · by_cases hk : j = k
      · subst hk
        simp [Memory.insert, hlt, Memory.byteAt, hj]
      · simp [Memory.insert, hlt, Memory.byteAt, hk, ih (fun c hc => fresh c (by simp [hc]))]

theorem Memory.mem_erase {m : Memory} {key : Nat} {c : Host.Cell} (h : c ∈ m.erase key) :
    c ∈ m ∧ c.1 ≠ key := by
  induction m with
  | nil => simp [Memory.erase] at h
  | cons d rest ih =>
    obtain ⟨j, w⟩ := d
    by_cases hj : j = key
    · simp only [Memory.erase, hj, if_true] at h
      exact ⟨List.mem_cons_of_mem _ (ih h).1, (ih h).2⟩
    · simp only [Memory.erase, hj, if_false, List.mem_cons] at h
      rcases h with rfl | h
      · exact ⟨by simp, hj⟩
      · exact ⟨List.mem_cons_of_mem _ (ih h).1, (ih h).2⟩

theorem Memory.mem_insert {m : Memory} {key : Nat} {v : Byte} {c : Host.Cell} (h : c ∈ m.insert key v) :
    c = (key, v) ∨ c ∈ m := by
  induction m with
  | nil => simpa [Memory.insert] using h
  | cons d rest ih =>
    obtain ⟨j, w⟩ := d
    by_cases hlt : key < j
    · simpa [Memory.insert, hlt] using h
    · simp only [Memory.insert, hlt, if_false, List.mem_cons] at h
      rcases h with rfl | h
      · simp
      · rcases ih h with rfl | h
        · simp
        · exact .inr (List.mem_cons_of_mem _ h)

/-- A read after a write (R32, R33): the value written at that address, and at every other what was there before.
It holds of every list, canonical or not. -/
@[simp] theorem Memory.read_write (m : Memory) (addr other : Addr) (v : Byte) :
    (m.write addr v).read other = if other = addr then v else m.read other := by
  unfold Memory.write Memory.read
  split
  · next h => simp only [Memory.byteAt_erase, h, BitVec.toNat_inj]
  · rw [Memory.byteAt_insert _ _ _ _ (fun c hc => (Memory.mem_erase hc).2), Memory.byteAt_erase]
    simp only [BitVec.toNat_inj]
    split <;> rfl

@[simp] theorem Memory.read_nil (addr : Addr) : Memory.read [] addr = unwrittenByte := rfl

theorem Memory.wf_nil : Memory.wf [] := by simp [Memory.wf]

theorem Memory.wf_erase {m : Memory} (key : Nat) (h : m.wf) : (m.erase key).wf := by
  refine ⟨?_, fun c hc => h.2 c (Memory.mem_erase hc).1⟩
  replace h := h.1
  induction m with
  | nil => simp [Memory.erase]
  | cons d rest ih =>
    obtain ⟨hd, hrest⟩ := List.pairwise_cons.mp h
    by_cases hj : d.1 = key
    · simpa [Memory.erase, hj] using ih hrest
    · simp only [Memory.erase, hj, if_false]
      exact List.pairwise_cons.mpr ⟨fun c hc => hd c (Memory.mem_erase hc).1, ih hrest⟩

theorem Memory.wf_insert {m : Memory} {key : Nat} {v : Byte} (h : m.wf) (fresh : ∀ c ∈ m, c.1 ≠ key)
    (hkey : key < 65536) (hv : v ≠ 0) : (m.insert key v).wf := by
  refine ⟨?_, fun c hc => ?_⟩
  · replace h := h.1
    induction m with
    | nil => simp [Memory.insert]
    | cons d rest ih =>
      obtain ⟨hd, hrest⟩ := List.pairwise_cons.mp h
      have hne : d.1 ≠ key := fresh d (by simp)
      by_cases hlt : key < d.1
      · simp only [Memory.insert, hlt, if_true]
        refine List.pairwise_cons.mpr ⟨fun c hc => ?_, h⟩
        rcases List.mem_cons.mp hc with rfl | hc
        · exact hlt
        · exact Nat.lt_trans hlt (hd c hc)
      · simp only [Memory.insert, hlt, if_false]
        refine List.pairwise_cons.mpr ⟨fun c hc => ?_, ih (fun c hc => fresh c (by simp [hc])) hrest⟩
        rcases Memory.mem_insert hc with rfl | hc
        · exact Nat.lt_of_le_of_ne (Nat.not_lt.mp hlt) hne
        · exact hd c hc
  · rcases Memory.mem_insert hc with rfl | hc
    · exact ⟨hkey, hv⟩
    · exact h.2 c hc

/-- A byte write keeps the canonical form. -/
theorem Memory.wf_write {m : Memory} (addr : Addr) (v : Byte) (h : m.wf) : (m.write addr v).wf := by
  unfold Memory.write
  split
  · exact Memory.wf_erase _ h
  · next hv =>
    exact Memory.wf_insert (Memory.wf_erase _ h) (fun c hc => (Memory.mem_erase hc).2) addr.isLt hv

/-- A run of byte writes keeps the canonical form. -/
theorem Memory.wf_writeBytes (bytes : List Byte) {m : Memory} (addr : Addr) (h : m.wf) :
    (m.writeBytes addr bytes).wf := by
  induction bytes generalizing m addr with
  | nil => exact h
  | cons b bs ih => exact ih (addr + 1) (Memory.wf_write addr b h)

/-- An address further ahead of `addr`, going up modulo 65536, than the bytes reach is left alone. -/
theorem Memory.read_writeBytes_outside (bytes : List Byte) (m : Memory) (addr other : Addr)
    (h : bytes.length ≤ (other - addr).toNat) : (m.writeBytes addr bytes).read other = m.read other := by
  induction bytes generalizing m addr with
  | nil => rfl
  | cons b bs ih =>
    simp only [List.length_cons] at h
    have hne : other ≠ addr := by rintro rfl; simp at h
    rw [Memory.writeBytes, ih, Memory.read_write, if_neg hne]
    bv_omega

end Sys2Proof.Machine
end

