-- ==== Sys2Proof/Laws/Control.lean ====
section
/-! SUPPORT. What the host's operations can do. -/

namespace Sys2Proof.Machine

theorem programFits_iff (program : List Byte) : programFits program = true ↔ program.length ≤ 0x8000 :=
  decide_eq_true_iff

/-- `load` of a program that fits changes memory alone (R161). -/
theorem loadProgram_of_fits {program : List Byte} (s : State) (h : program.length ≤ 0x8000) :
    loadProgram program s = some { s with mem := loadedMemory program s.mem } :=
  if_pos ((programFits_iff program).mpr h)

/-- `load` of a longer program answers nothing (R162). -/
theorem loadProgram_of_long {program : List Byte} (s : State) (h : 0x8000 < program.length) :
    loadProgram program s = none :=
  if_neg (fun hf => Nat.not_le.mpr h ((programFits_iff program).mp hf))

/-- Everything `load` can do. -/
theorem loadProgram_cases (program : List Byte) (s : State) :
    (program.length ≤ 0x8000 ∧ loadProgram program s = some { s with mem := loadedMemory program s.mem }) ∨
    (0x8000 < program.length ∧ loadProgram program s = none) := by
  rcases Nat.lt_or_ge 0x8000 program.length with h | h
  · exact .inr ⟨h, loadProgram_of_long s h⟩
  · exact .inl ⟨h, loadProgram_of_fits s h⟩

/-- `load` keeps the canonical form of memory. -/
theorem wf_loadedMemory (program : List Byte) {m : Memory} (h : m.wf) : (loadedMemory program m).wf :=
  Memory.wf_write _ _ (Memory.wf_write _ _ (Memory.wf_writeBytes _ _ h))

/-- `load` leaves the reset vector 0x8000, whatever the program (R161, R163). -/
theorem read16_loadedMemory (program : List Byte) (m : Memory) :
    (loadedMemory program m).read16 Config.resetVector = 0x8000 := by
  have h : Config.resetVector ≠ Config.resetVector + 1 := by decide
  simp only [loadedMemory, Memory.read16, Memory.read_write, if_pos, if_neg h]
  decide

/-- While Running the host has no move (R24, R170). -/
theorem serve_running {s : State} (r : Request) (h : s.run = .running) : serve r (.live s) = (.live s, .noMove) := by
  simp only [serve, h]

/-- While Halted a request is served (R170). -/
theorem serve_halted {s : State} (r : Request) (h : s.run = .halted) :
    serve r (.live s) = (.live (serveHalted r s).1, (serveHalted r s).2) := by
  simp only [serve, h]

@[simp] theorem boardAfter_next (s t : State) : boardAfter s (.next t) = .live t := rfl
@[simp] theorem boardAfter_fault (s : State) (f : Fault) : boardAfter s (.fault f) = .fatal f := rfl
@[simp] theorem boardAfter_refused (s : State) (r : Refusal) : boardAfter s (.refused r) = .live s := rfl

/-- The core's move on a live block is what its step answers (R90). -/
theorem tick_live (s : State) : tick (.live s) = boardAfter s (step s) := rfl

end Sys2Proof.Machine
end

