-- ==== Sys2Proof/Laws/Decode.lean ====
section
/-! SUPPORT. What the opcode map gives for each opcode byte, and the byte order of a 16-bit operand. -/

namespace Sys2Proof

/-- Selecting a row and selecting an opcode byte undo each other, whatever byte `Config.opcodeLdaAbs` names (R54). -/
theorem opcodeMapRow_opcodeMapRow (op : Byte) : opcodeMapRow (opcodeMapRow op) = op := by
  simp only [opcodeMapRow]
  split_ifs <;> simp_all

/-- The byte named by `Config.opcodeLdaAbs` selects the row of LDA Absolute (R54). -/
theorem opcodeMapRow_opcodeLdaAbs : opcodeMapRow Config.opcodeLdaAbs = ldaAbsRow := if_pos rfl

/-- The instruction in a row is the one that has that row. -/
@[simp] theorem mapRow_mapInstr (row b1 b2 : Byte) : (mapInstr row b1 b2).mapRow = row := by
  obtain ⟨n, hn⟩ : ∃ n : Fin 256, row = BitVec.ofFin n := ⟨row.toFin, rfl⟩
  subst hn
  fin_cases n <;> rfl

/-- The instruction read from an opcode byte is the one that has that opcode byte (R51, R59). -/
@[simp] theorem opcode_instrOf (op b1 b2 : Byte) : (instrOf op b1 b2).opcode = op := by
  rw [Instr.opcode, instrOf, mapRow_mapInstr, opcodeMapRow_opcodeMapRow]

/-- The byte named by `Config.opcodeLdaAbs` is LDA Absolute, by its definition's name and not its value (R54). -/
theorem instrOf_opcodeLdaAbs (b1 b2 : Byte) : instrOf Config.opcodeLdaAbs b1 b2 = .ldaAbs (joinBytes b2 b1) := by
  rw [instrOf, opcodeMapRow_opcodeLdaAbs]
  rfl

/-- While `Config.opcodeLdaAbs` is the printed 0xAD, every byte selects its own row (R54, R55).  The only lemma here that
rests on the constant's value. -/
@[simp] theorem opcodeMapRow_eq (op : Byte) : opcodeMapRow op = op := by
  simp only [opcodeMapRow, ldaAbsRow, Config.opcodeLdaAbs]
  split_ifs <;> simp_all

/-- The opcode byte of an instruction is its row in the printed map (log 4). -/
theorem opcode_eq_mapRow (i : Instr) : i.opcode = i.mapRow := opcodeMapRow_eq _

/-- The instruction of an opcode byte is the one in that row of the printed map (log 4). -/
theorem instrOf_eq_mapInstr (op b1 b2 : Byte) : instrOf op b1 b2 = mapInstr op b1 b2 := by
  rw [instrOf, opcodeMapRow_eq]

/-- `hi : lo` is `256 * hi + lo` (`00_scope.md` R6). -/
theorem toNat_joinBytes (hi lo : Byte) : (joinBytes hi lo).toNat = 256 * hi.toNat + lo.toNat := by
  have h : lo.toNat < 2 ^ 8 := lo.isLt
  rw [joinBytes, BitVec.toNat_append, ← Nat.shiftLeft_add_eq_or_of_lt h, Nat.shiftLeft_eq]
  omega

/-- The two bytes the encoder writes for an address join to the address. -/
theorem joinBytes_split (target : Addr) :
    joinBytes ((target >>> 8).setWidth 8) (target.setWidth 8) = target := by
  apply BitVec.eq_of_toNat_eq
  rw [toNat_joinBytes]
  have : target.toNat < 65536 := target.isLt
  simp only [BitVec.toNat_setWidth, BitVec.toNat_ushiftRight, Nat.shiftRight_eq_div_pow]
  omega

/-- A list with as many bytes after the opcode byte as it owns decodes to the instruction at its front (R50, R51). -/
theorem decode_cons {op : Byte} {rest : List Byte} (h : opcodeAdvance op ≤ rest.length) :
    decode (op :: rest) =
      .ok (instrOf op (rest.getD 0 0) (rest.getD 1 0), rest.drop (opcodeAdvance op)) := by
  simp only [decode, Nat.not_lt.mpr h, if_false]

/-- Every instruction writes as many bytes after its opcode byte as the opcode owns. -/
theorem length_operandField (i : Instr) : i.operandField.length = opcodeAdvance i.opcode := by
  cases i <;> rfl

end Sys2Proof
end

