-- ==== Sys2Proof/Laws/State.lean ====
section
/-! SUPPORT. What each named update of the state does to each field, so that no later proof unfolds a record update. -/

namespace Sys2Proof.Machine

@[simp] theorem State.advance_a (s : State) (n : Nat) : (s.advance n).a = s.a := rfl
@[simp] theorem State.advance_x (s : State) (n : Nat) : (s.advance n).x = s.x := rfl
@[simp] theorem State.advance_y (s : State) (n : Nat) : (s.advance n).y = s.y := rfl
@[simp] theorem State.advance_p (s : State) (n : Nat) : (s.advance n).p = s.p := rfl
@[simp] theorem State.advance_pc (s : State) (n : Nat) : (s.advance n).pc = s.pc + BitVec.ofNat 16 n := rfl
@[simp] theorem State.advance_run (s : State) (n : Nat) : (s.advance n).run = s.run := rfl
@[simp] theorem State.advance_mem (s : State) (n : Nat) : (s.advance n).mem = s.mem := rfl

@[simp] theorem State.fetchAdvance_a (s : State) : (s.fetchAdvance).a = s.a := rfl
@[simp] theorem State.fetchAdvance_x (s : State) : (s.fetchAdvance).x = s.x := rfl
@[simp] theorem State.fetchAdvance_y (s : State) : (s.fetchAdvance).y = s.y := rfl
@[simp] theorem State.fetchAdvance_p (s : State) : (s.fetchAdvance).p = s.p := rfl
@[simp] theorem State.fetchAdvance_pc (s : State) : (s.fetchAdvance).pc = s.pc + 1 := rfl
@[simp] theorem State.fetchAdvance_run (s : State) : (s.fetchAdvance).run = s.run := rfl
@[simp] theorem State.fetchAdvance_mem (s : State) : (s.fetchAdvance).mem = s.mem := rfl

@[simp] theorem State.setA_a (s : State) (v : Byte) : (s.setA v).a = v := rfl
@[simp] theorem State.setA_x (s : State) (v : Byte) : (s.setA v).x = s.x := rfl
@[simp] theorem State.setA_y (s : State) (v : Byte) : (s.setA v).y = s.y := rfl
@[simp] theorem State.setA_p (s : State) (v : Byte) : (s.setA v).p = s.p := rfl
@[simp] theorem State.setA_pc (s : State) (v : Byte) : (s.setA v).pc = s.pc := rfl
@[simp] theorem State.setA_run (s : State) (v : Byte) : (s.setA v).run = s.run := rfl
@[simp] theorem State.setA_mem (s : State) (v : Byte) : (s.setA v).mem = s.mem := rfl

@[simp] theorem State.setX_a (s : State) (v : Byte) : (s.setX v).a = s.a := rfl
@[simp] theorem State.setX_x (s : State) (v : Byte) : (s.setX v).x = v := rfl
@[simp] theorem State.setX_y (s : State) (v : Byte) : (s.setX v).y = s.y := rfl
@[simp] theorem State.setX_p (s : State) (v : Byte) : (s.setX v).p = s.p := rfl
@[simp] theorem State.setX_pc (s : State) (v : Byte) : (s.setX v).pc = s.pc := rfl
@[simp] theorem State.setX_run (s : State) (v : Byte) : (s.setX v).run = s.run := rfl
@[simp] theorem State.setX_mem (s : State) (v : Byte) : (s.setX v).mem = s.mem := rfl

@[simp] theorem State.store_a (s : State) (addr : Addr) (v : Byte) : (s.store addr v).a = s.a := rfl
@[simp] theorem State.store_x (s : State) (addr : Addr) (v : Byte) : (s.store addr v).x = s.x := rfl
@[simp] theorem State.store_y (s : State) (addr : Addr) (v : Byte) : (s.store addr v).y = s.y := rfl
@[simp] theorem State.store_p (s : State) (addr : Addr) (v : Byte) : (s.store addr v).p = s.p := rfl
@[simp] theorem State.store_pc (s : State) (addr : Addr) (v : Byte) : (s.store addr v).pc = s.pc := rfl
@[simp] theorem State.store_run (s : State) (addr : Addr) (v : Byte) : (s.store addr v).run = s.run := rfl
@[simp] theorem State.store_mem (s : State) (addr : Addr) (v : Byte) : (s.store addr v).mem = s.mem.write addr v := rfl

@[simp] theorem State.halt_a (s : State) : (s.halt).a = s.a := rfl
@[simp] theorem State.halt_x (s : State) : (s.halt).x = s.x := rfl
@[simp] theorem State.halt_y (s : State) : (s.halt).y = s.y := rfl
@[simp] theorem State.halt_p (s : State) : (s.halt).p = s.p := rfl
@[simp] theorem State.halt_pc (s : State) : (s.halt).pc = s.pc := rfl
@[simp] theorem State.halt_run (s : State) : (s.halt).run = .halted := rfl
@[simp] theorem State.halt_mem (s : State) : (s.halt).mem = s.mem := rfl

@[simp] theorem State.startRun_a (s : State) : (s.startRun).a = s.a := rfl
@[simp] theorem State.startRun_x (s : State) : (s.startRun).x = s.x := rfl
@[simp] theorem State.startRun_y (s : State) : (s.startRun).y = s.y := rfl
@[simp] theorem State.startRun_p (s : State) : (s.startRun).p = s.p := rfl
@[simp] theorem State.startRun_pc (s : State) : (s.startRun).pc = s.pc := rfl
@[simp] theorem State.startRun_run (s : State) : (s.startRun).run = .running := rfl
@[simp] theorem State.startRun_mem (s : State) : (s.startRun).mem = s.mem := rfl

@[simp] theorem State.updateFlags_a (s : State) (v : Byte) : (s.updateFlags v).a = s.a := rfl
@[simp] theorem State.updateFlags_x (s : State) (v : Byte) : (s.updateFlags v).x = s.x := rfl
@[simp] theorem State.updateFlags_y (s : State) (v : Byte) : (s.updateFlags v).y = s.y := rfl
@[simp] theorem State.updateFlags_p (s : State) (v : Byte) : (s.updateFlags v).p = updateZN s.p v := rfl
@[simp] theorem State.updateFlags_pc (s : State) (v : Byte) : (s.updateFlags v).pc = s.pc := rfl
@[simp] theorem State.updateFlags_run (s : State) (v : Byte) : (s.updateFlags v).run = s.run := rfl
@[simp] theorem State.updateFlags_mem (s : State) (v : Byte) : (s.updateFlags v).mem = s.mem := rfl

@[simp] theorem State.withFetchWord_a (s : State) (nbits w : Nat) : (s.withFetchWord nbits w).a = s.a := rfl
@[simp] theorem State.withFetchWord_x (s : State) (nbits w : Nat) : (s.withFetchWord nbits w).x = s.x := rfl
@[simp] theorem State.withFetchWord_y (s : State) (nbits w : Nat) : (s.withFetchWord nbits w).y = s.y := rfl
@[simp] theorem State.withFetchWord_p (s : State) (nbits w : Nat) : (s.withFetchWord nbits w).p = s.p := rfl
@[simp] theorem State.withFetchWord_pc (s : State) (nbits w : Nat) : (s.withFetchWord nbits w).pc = s.pc := rfl
@[simp] theorem State.withFetchWord_run (s : State) (nbits w : Nat) : (s.withFetchWord nbits w).run = .running := rfl
@[simp] theorem State.withFetchWord_mem (s : State) (nbits w : Nat) : (s.withFetchWord nbits w).mem = s.mem.writeBytes s.pc (tableBytes nbits w) := rfl

@[simp] theorem requestReset_a (s : State) : (requestReset s).a = 0 := rfl
@[simp] theorem requestReset_x (s : State) : (requestReset s).x = 0 := rfl
@[simp] theorem requestReset_y (s : State) : (requestReset s).y = s.y := rfl
@[simp] theorem requestReset_p (s : State) : (requestReset s).p = 0 := rfl
@[simp] theorem requestReset_pc (s : State) : (requestReset s).pc = s.mem.read16 Config.resetVector := rfl
@[simp] theorem requestReset_run (s : State) : (requestReset s).run = s.run := rfl
@[simp] theorem requestReset_mem (s : State) : (requestReset s).mem = s.mem := rfl

@[simp] theorem writeReg_pc (s : State) (r : RegName) (v : Byte) : (writeReg s r v).pc = s.pc := by
  cases r <;> rfl
@[simp] theorem writeReg_run (s : State) (r : RegName) (v : Byte) : (writeReg s r v).run = s.run := by
  cases r <;> rfl
@[simp] theorem writeReg_mem (s : State) (r : RegName) (v : Byte) : (writeReg s r v).mem = s.mem := by
  cases r <;> rfl

/-- A host write to a register changes that register and no other (`10_state.md` R27). -/
theorem readReg_writeReg (s : State) (r q : RegName) (v : Byte) :
    readReg (writeReg s r v) q = if q = r then v else readReg s q := by
  cases r <;> cases q <;> rfl

end Sys2Proof.Machine
end

