-- ==== Sys2Proof/Laws/Exec.lean ====
section
/-! SUPPORT. What one instruction, and one step, can do: said once here, cited instead of unfolding `exec`. -/

namespace Sys2Proof.Machine

/-- Every instruction is one of the ten named ones or has an unmapped opcode, does nothing, and issues no transaction
after its fetch: eleven cases in place of 256. -/
theorem instr_cases (i : Instr) :
    (∃ v, i = .ldaImm v) ∨ (∃ b, i = .ldaZp b) ∨ (∃ t, i = .ldaAbs t) ∨ (∃ v, i = .ldxImm v) ∨
    (∃ b, i = .staZp b) ∨ (∃ b, i = .staZpX b) ∨ i = .tax ∨ i = .inx ∨ i = .nop ∨ i = .brk ∨
    (i.opcode ∉ mappedOpcodes ∧ ∀ s, exec i s = .next s ∧ instrTransactions i s = []) := by
  cases i <;> first | simp; done | (simp; exact ⟨by decide, fun s => ⟨rfl, rfl⟩⟩)

/-- The next states an instruction can give from a state after the opcode fetch. -/
inductive Effect (s : State) : State → Prop where
  /-- LDA: `A` and the flags from a byte, `pc` past `n` operand bytes. -/
  | loadA (v : Byte) (n : Nat) : Effect s (((s.setA v).updateFlags v).advance n)
  /-- LDX: `X` and the flags from a byte, `pc` past one operand byte. -/
  | loadX (v : Byte) : Effect s (((s.setX v).updateFlags v).advance 1)
  /-- STA: `A` to a zero-page cell, `pc` past one operand byte. -/
  | storeA (b : Byte) : Effect s ((s.store (zeroPageAddr b) s.a).advance 1)
  /-- TAX and INX: `X` and the flags from a byte. -/
  | writeX (v : Byte) : Effect s ((s.setX v).updateFlags v)
  /-- NOP. -/
  | skip : Effect s (s.advance 1)
  /-- BRK. -/
  | halt : Effect s s.halt
  /-- An unmapped opcode. -/
  | none : Effect s s

/-- Every instruction completes, with one of these effects; only BRK halts. -/
theorem exec_effect (i : Instr) (s : State) :
    ∃ t, exec i s = .next t ∧ Effect s t ∧ (i = .brk ∨ t.run = s.run) := by
  cases i
  case ldaImm v => exact ⟨_, rfl, .loadA v 1, .inr rfl⟩
  case ldaZp b => exact ⟨_, rfl, .loadA (s.mem.read (zeroPageAddr b)) 1, .inr rfl⟩
  case ldaAbs t => exact ⟨_, rfl, .loadA (s.mem.read t) 2, .inr rfl⟩
  case ldxImm v => exact ⟨_, rfl, .loadX v, .inr rfl⟩
  case staZp b => exact ⟨_, rfl, .storeA b, .inr rfl⟩
  case staZpX b => exact ⟨_, rfl, .storeA (b + s.x), .inr rfl⟩
  case tax => exact ⟨_, rfl, .writeX s.a, .inr rfl⟩
  case inx => exact ⟨_, rfl, .writeX (s.x + 1), .inr rfl⟩
  case nop => exact ⟨_, rfl, .skip, .inr rfl⟩
  case brk => exact ⟨_, rfl, .halt, .inl rfl⟩
  all_goals exact ⟨_, rfl, .none, .inr rfl⟩

/-- The one next state of an instruction has one of the effects. -/
theorem effect_of_exec {i : Instr} {s t : State} (h : exec i s = .next t) : Effect s t := by
  obtain ⟨u, hu, he, -⟩ := exec_effect i s
  rw [hu] at h
  cases h
  exact he

/-- The fetched instruction has the opcode byte at `pc` (R93). -/
@[simp] theorem opcode_fetchInstr (s : State) : s.fetchInstr.opcode = s.mem.read s.pc :=
  opcode_instrOf _ _ _

/-- The instruction fetched where the byte at `pc` is known. -/
theorem fetchInstr_of_read {s : State} {op : Byte} (h : s.mem.read s.pc = op) :
    s.fetchInstr = instrOf op (s.mem.read (s.pc + 1)) (s.mem.read (s.pc + 2)) := by
  rw [State.fetchInstr, h]

/-- BRK is fetched exactly where the byte at `pc` is 0x00 (R131). -/
theorem fetchInstr_eq_brk {s : State} : s.fetchInstr = .brk ↔ s.mem.read s.pc = 0x00 := by
  constructor
  · intro h
    rw [← opcode_fetchInstr, h]
    rfl
  · intro h
    rw [fetchInstr_of_read h]
    rfl

/-- A step: exactly while Running, of the fetched instruction after the fetch advance (R91, R93). -/
theorem step_running {s : State} (h : s.run = .running) : step s = exec s.fetchInstr s.fetchAdvance := by
  simp [step, h]

theorem step_halted {s : State} (h : s.run = .halted) : step s = .refused .halted := by
  simp [step, h]

/-- Everything a step that answers a next state has done. -/
theorem step_cases {s t : State} (h : step s = .next t) :
    s.run = .running ∧ exec s.fetchInstr s.fetchAdvance = .next t ∧ Effect s.fetchAdvance t := by
  cases hr : s.run with
  | running =>
    rw [step_running hr] at h
    exact ⟨rfl, h, effect_of_exec h⟩
  | halted => simp [step_halted hr] at h

end Sys2Proof.Machine
end

