-- ==== Sys2Proof/Laws/Flags.lean ====
section
/-! SUPPORT. Bit laws of the flag updater. -/

namespace Sys2Proof.Machine

/-- `setBit` changes the one bit it names, for the bit numbers a byte has. -/
theorem getLsbD_setBit (b : Byte) (i k : Nat) (v : Bool) (hk : k < 8) :
    (setBit b i v).getLsbD k = if k = i then v else b.getLsbD k := by
  unfold setBit
  by_cases hik : k = i
  · subst hik
    cases v <;> simp [hk]
  · by_cases hlt : k < i
    · cases v <;> simp [hk, hik, hlt]
    · have : k - i ≠ 0 := by omega
      cases v <;> simp [hk, hik, hlt, this]

/-- Every bit of what the flag updater gives (R97). -/
theorem getLsbD_updateZN (p v : Byte) (k : Nat) :
    (updateZN p v).getLsbD k = if k = 7 then v.getLsbD 7 else if k = 1 then v == 0 else p.getLsbD k := by
  by_cases hk : k < 8
  · rw [updateZN, getLsbD_setBit _ _ _ _ hk, getLsbD_setBit _ _ _ _ hk]
    rfl
  · have h1 : k ≠ 1 := by omega
    have h7 : k ≠ 7 := by omega
    rw [if_neg h7, if_neg h1, BitVec.getLsbD_of_ge _ _ (Nat.not_lt.mp hk), BitVec.getLsbD_of_ge _ _ (Nat.not_lt.mp hk)]

end Sys2Proof.Machine
end

