-- ==== Sys2Proof/Laws/Operands.lean ====
section
/-! SUPPORT. Everything the resolver and the shared load/store frame can do. -/

namespace Sys2Proof.Machine

/-- `zext_16` keeps the value. -/
@[simp] theorem toNat_zeroPageAddr (b : Byte) : (zeroPageAddr b).toNat = b.toNat := by
  have : b.toNat < 256 := b.isLt
  simp only [zeroPageAddr, BitVec.toNat_setWidth]
  omega

/-- The resolver answers an address for every operand but the NoAddressing sentinel (R71 to R80). -/
theorem effectiveAddress_cases (o : Operand) (s : State) :
    (o = .noAddressing ∧ effectiveAddress o s = .error .resolveNoAddressing) ∨
    (o ≠ .noAddressing ∧ ∃ ea, effectiveAddress o s = .ok ea) := by
  cases o <;> simp [effectiveAddress]

/-- `withOperand` answers a next state exactly where the resolver gives an address: the work at that address, then the
operand advance. -/
theorem withOperand_eq_next {o : Operand} {work : Addr → State → State} {s t : State} :
    withOperand o work s = .next t ↔
      ∃ ea, effectiveAddress o s = .ok ea ∧ t = (work ea s).advance o.mode.operandBytes := by
  unfold withOperand
  cases effectiveAddress o s <;> simp [eq_comm]

/-- Where the resolver gives an address, `withOperand` completes. -/
theorem withOperand_of_ok {o : Operand} {work : Addr → State → State} {s : State} {ea : Addr}
    (h : effectiveAddress o s = .ok ea) :
    withOperand o work s = .next ((work ea s).advance o.mode.operandBytes) :=
  withOperand_eq_next.mpr ⟨ea, h, rfl⟩

/-- `operandAt` keeps the tag it is given. -/
@[simp] theorem operandAt_mode (mode : Mode) (s : State) : (operandAt mode s).mode = mode := by
  cases mode <;> rfl

/-- The data of the operand at `pc` is the byte at its effective address, the immediate one included (R71, log 13). -/
theorem operandData_operandAt {mode : Mode} {s : State} {ea : Addr} (h : resolve mode s = .ok ea) :
    operandData (operandAt mode s) ea s = s.mem.read ea := by
  cases mode <;> simp_all [resolve, operandAt, effectiveAddress, operandData]

end Sys2Proof.Machine
end

