-- ==== Sys2Proof/Laws/PerInstr.lean ====
section
/-! SUPPORT. Laws stated for every instruction as syntax, one lemma per constructor of `Instr`. -/

namespace Sys2Proof.Laws.Encoding

/-- The bytes the encoder writes are those of exactly one instruction, and the first is its opcode byte (R50, R51). -/
def Statement (i : Instr) : Prop :=
  encodingWellFormed (encode i) = true ∧ (encode i).head? = some i.opcode

theorem ldaImm (v : Byte) : Statement (.ldaImm v) := ⟨rfl, rfl⟩
theorem ldaZp (v : Byte) : Statement (.ldaZp v) := ⟨rfl, rfl⟩
theorem ldaAbs (v : Addr) : Statement (.ldaAbs v) := ⟨rfl, rfl⟩
theorem ldxImm (v : Byte) : Statement (.ldxImm v) := ⟨rfl, rfl⟩
theorem staZp (v : Byte) : Statement (.staZp v) := ⟨rfl, rfl⟩
theorem staZpX (v : Byte) : Statement (.staZpX v) := ⟨rfl, rfl⟩
theorem tax : Statement .tax := ⟨rfl, rfl⟩
theorem inx : Statement .inx := ⟨rfl, rfl⟩
theorem nop : Statement .nop := ⟨rfl, rfl⟩
theorem brk : Statement .brk := ⟨rfl, rfl⟩
theorem unmapped01 : Statement .unmapped01 := ⟨rfl, rfl⟩
theorem unmapped02 : Statement .unmapped02 := ⟨rfl, rfl⟩
theorem unmapped03 : Statement .unmapped03 := ⟨rfl, rfl⟩
theorem unmapped04 : Statement .unmapped04 := ⟨rfl, rfl⟩
theorem unmapped05 : Statement .unmapped05 := ⟨rfl, rfl⟩
theorem unmapped06 : Statement .unmapped06 := ⟨rfl, rfl⟩
theorem unmapped07 : Statement .unmapped07 := ⟨rfl, rfl⟩
theorem unmapped08 : Statement .unmapped08 := ⟨rfl, rfl⟩
theorem unmapped09 : Statement .unmapped09 := ⟨rfl, rfl⟩
theorem unmapped0A : Statement .unmapped0A := ⟨rfl, rfl⟩
theorem unmapped0B : Statement .unmapped0B := ⟨rfl, rfl⟩
theorem unmapped0C : Statement .unmapped0C := ⟨rfl, rfl⟩
theorem unmapped0D : Statement .unmapped0D := ⟨rfl, rfl⟩
theorem unmapped0E : Statement .unmapped0E := ⟨rfl, rfl⟩
theorem unmapped0F : Statement .unmapped0F := ⟨rfl, rfl⟩
theorem unmapped10 : Statement .unmapped10 := ⟨rfl, rfl⟩
theorem unmapped11 : Statement .unmapped11 := ⟨rfl, rfl⟩
theorem unmapped12 : Statement .unmapped12 := ⟨rfl, rfl⟩
theorem unmapped13 : Statement .unmapped13 := ⟨rfl, rfl⟩
theorem unmapped14 : Statement .unmapped14 := ⟨rfl, rfl⟩
theorem unmapped15 : Statement .unmapped15 := ⟨rfl, rfl⟩
theorem unmapped16 : Statement .unmapped16 := ⟨rfl, rfl⟩
theorem unmapped17 : Statement .unmapped17 := ⟨rfl, rfl⟩
theorem unmapped18 : Statement .unmapped18 := ⟨rfl, rfl⟩
theorem unmapped19 : Statement .unmapped19 := ⟨rfl, rfl⟩
theorem unmapped1A : Statement .unmapped1A := ⟨rfl, rfl⟩
theorem unmapped1B : Statement .unmapped1B := ⟨rfl, rfl⟩
theorem unmapped1C : Statement .unmapped1C := ⟨rfl, rfl⟩
theorem unmapped1D : Statement .unmapped1D := ⟨rfl, rfl⟩
theorem unmapped1E : Statement .unmapped1E := ⟨rfl, rfl⟩
theorem unmapped1F : Statement .unmapped1F := ⟨rfl, rfl⟩
theorem unmapped20 : Statement .unmapped20 := ⟨rfl, rfl⟩
theorem unmapped21 : Statement .unmapped21 := ⟨rfl, rfl⟩
theorem unmapped22 : Statement .unmapped22 := ⟨rfl, rfl⟩
theorem unmapped23 : Statement .unmapped23 := ⟨rfl, rfl⟩
theorem unmapped24 : Statement .unmapped24 := ⟨rfl, rfl⟩
theorem unmapped25 : Statement .unmapped25 := ⟨rfl, rfl⟩
theorem unmapped26 : Statement .unmapped26 := ⟨rfl, rfl⟩
theorem unmapped27 : Statement .unmapped27 := ⟨rfl, rfl⟩
theorem unmapped28 : Statement .unmapped28 := ⟨rfl, rfl⟩
theorem unmapped29 : Statement .unmapped29 := ⟨rfl, rfl⟩
theorem unmapped2A : Statement .unmapped2A := ⟨rfl, rfl⟩
theorem unmapped2B : Statement .unmapped2B := ⟨rfl, rfl⟩
theorem unmapped2C : Statement .unmapped2C := ⟨rfl, rfl⟩
theorem unmapped2D : Statement .unmapped2D := ⟨rfl, rfl⟩
theorem unmapped2E : Statement .unmapped2E := ⟨rfl, rfl⟩
theorem unmapped2F : Statement .unmapped2F := ⟨rfl, rfl⟩
theorem unmapped30 : Statement .unmapped30 := ⟨rfl, rfl⟩
theorem unmapped31 : Statement .unmapped31 := ⟨rfl, rfl⟩
theorem unmapped32 : Statement .unmapped32 := ⟨rfl, rfl⟩
theorem unmapped33 : Statement .unmapped33 := ⟨rfl, rfl⟩
theorem unmapped34 : Statement .unmapped34 := ⟨rfl, rfl⟩
theorem unmapped35 : Statement .unmapped35 := ⟨rfl, rfl⟩
theorem unmapped36 : Statement .unmapped36 := ⟨rfl, rfl⟩
theorem unmapped37 : Statement .unmapped37 := ⟨rfl, rfl⟩
theorem unmapped38 : Statement .unmapped38 := ⟨rfl, rfl⟩
theorem unmapped39 : Statement .unmapped39 := ⟨rfl, rfl⟩
theorem unmapped3A : Statement .unmapped3A := ⟨rfl, rfl⟩
theorem unmapped3B : Statement .unmapped3B := ⟨rfl, rfl⟩
theorem unmapped3C : Statement .unmapped3C := ⟨rfl, rfl⟩
theorem unmapped3D : Statement .unmapped3D := ⟨rfl, rfl⟩
theorem unmapped3E : Statement .unmapped3E := ⟨rfl, rfl⟩
theorem unmapped3F : Statement .unmapped3F := ⟨rfl, rfl⟩
theorem unmapped40 : Statement .unmapped40 := ⟨rfl, rfl⟩
theorem unmapped41 : Statement .unmapped41 := ⟨rfl, rfl⟩
theorem unmapped42 : Statement .unmapped42 := ⟨rfl, rfl⟩
theorem unmapped43 : Statement .unmapped43 := ⟨rfl, rfl⟩
theorem unmapped44 : Statement .unmapped44 := ⟨rfl, rfl⟩
theorem unmapped45 : Statement .unmapped45 := ⟨rfl, rfl⟩
theorem unmapped46 : Statement .unmapped46 := ⟨rfl, rfl⟩
theorem unmapped47 : Statement .unmapped47 := ⟨rfl, rfl⟩
theorem unmapped48 : Statement .unmapped48 := ⟨rfl, rfl⟩
theorem unmapped49 : Statement .unmapped49 := ⟨rfl, rfl⟩
theorem unmapped4A : Statement .unmapped4A := ⟨rfl, rfl⟩
theorem unmapped4B : Statement .unmapped4B := ⟨rfl, rfl⟩
theorem unmapped4C : Statement .unmapped4C := ⟨rfl, rfl⟩
theorem unmapped4D : Statement .unmapped4D := ⟨rfl, rfl⟩
theorem unmapped4E : Statement .unmapped4E := ⟨rfl, rfl⟩
theorem unmapped4F : Statement .unmapped4F := ⟨rfl, rfl⟩
theorem unmapped50 : Statement .unmapped50 := ⟨rfl, rfl⟩
theorem unmapped51 : Statement .unmapped51 := ⟨rfl, rfl⟩
theorem unmapped52 : Statement .unmapped52 := ⟨rfl, rfl⟩
theorem unmapped53 : Statement .unmapped53 := ⟨rfl, rfl⟩
theorem unmapped54 : Statement .unmapped54 := ⟨rfl, rfl⟩
theorem unmapped55 : Statement .unmapped55 := ⟨rfl, rfl⟩
theorem unmapped56 : Statement .unmapped56 := ⟨rfl, rfl⟩
theorem unmapped57 : Statement .unmapped57 := ⟨rfl, rfl⟩
theorem unmapped58 : Statement .unmapped58 := ⟨rfl, rfl⟩
theorem unmapped59 : Statement .unmapped59 := ⟨rfl, rfl⟩
theorem unmapped5A : Statement .unmapped5A := ⟨rfl, rfl⟩
theorem unmapped5B : Statement .unmapped5B := ⟨rfl, rfl⟩
theorem unmapped5C : Statement .unmapped5C := ⟨rfl, rfl⟩
theorem unmapped5D : Statement .unmapped5D := ⟨rfl, rfl⟩
theorem unmapped5E : Statement .unmapped5E := ⟨rfl, rfl⟩
theorem unmapped5F : Statement .unmapped5F := ⟨rfl, rfl⟩
theorem unmapped60 : Statement .unmapped60 := ⟨rfl, rfl⟩
theorem unmapped61 : Statement .unmapped61 := ⟨rfl, rfl⟩
theorem unmapped62 : Statement .unmapped62 := ⟨rfl, rfl⟩
theorem unmapped63 : Statement .unmapped63 := ⟨rfl, rfl⟩
theorem unmapped64 : Statement .unmapped64 := ⟨rfl, rfl⟩
theorem unmapped65 : Statement .unmapped65 := ⟨rfl, rfl⟩
theorem unmapped66 : Statement .unmapped66 := ⟨rfl, rfl⟩
theorem unmapped67 : Statement .unmapped67 := ⟨rfl, rfl⟩
theorem unmapped68 : Statement .unmapped68 := ⟨rfl, rfl⟩
theorem unmapped69 : Statement .unmapped69 := ⟨rfl, rfl⟩
theorem unmapped6A : Statement .unmapped6A := ⟨rfl, rfl⟩
theorem unmapped6B : Statement .unmapped6B := ⟨rfl, rfl⟩
theorem unmapped6C : Statement .unmapped6C := ⟨rfl, rfl⟩
theorem unmapped6D : Statement .unmapped6D := ⟨rfl, rfl⟩
theorem unmapped6E : Statement .unmapped6E := ⟨rfl, rfl⟩
theorem unmapped6F : Statement .unmapped6F := ⟨rfl, rfl⟩
theorem unmapped70 : Statement .unmapped70 := ⟨rfl, rfl⟩
theorem unmapped71 : Statement .unmapped71 := ⟨rfl, rfl⟩
theorem unmapped72 : Statement .unmapped72 := ⟨rfl, rfl⟩
theorem unmapped73 : Statement .unmapped73 := ⟨rfl, rfl⟩
theorem unmapped74 : Statement .unmapped74 := ⟨rfl, rfl⟩
theorem unmapped75 : Statement .unmapped75 := ⟨rfl, rfl⟩
theorem unmapped76 : Statement .unmapped76 := ⟨rfl, rfl⟩
theorem unmapped77 : Statement .unmapped77 := ⟨rfl, rfl⟩
theorem unmapped78 : Statement .unmapped78 := ⟨rfl, rfl⟩
theorem unmapped79 : Statement .unmapped79 := ⟨rfl, rfl⟩
theorem unmapped7A : Statement .unmapped7A := ⟨rfl, rfl⟩
theorem unmapped7B : Statement .unmapped7B := ⟨rfl, rfl⟩
theorem unmapped7C : Statement .unmapped7C := ⟨rfl, rfl⟩
theorem unmapped7D : Statement .unmapped7D := ⟨rfl, rfl⟩
theorem unmapped7E : Statement .unmapped7E := ⟨rfl, rfl⟩
theorem unmapped7F : Statement .unmapped7F := ⟨rfl, rfl⟩
theorem unmapped80 : Statement .unmapped80 := ⟨rfl, rfl⟩
theorem unmapped81 : Statement .unmapped81 := ⟨rfl, rfl⟩
theorem unmapped82 : Statement .unmapped82 := ⟨rfl, rfl⟩
theorem unmapped83 : Statement .unmapped83 := ⟨rfl, rfl⟩
theorem unmapped84 : Statement .unmapped84 := ⟨rfl, rfl⟩
theorem unmapped86 : Statement .unmapped86 := ⟨rfl, rfl⟩
theorem unmapped87 : Statement .unmapped87 := ⟨rfl, rfl⟩
theorem unmapped88 : Statement .unmapped88 := ⟨rfl, rfl⟩
theorem unmapped89 : Statement .unmapped89 := ⟨rfl, rfl⟩
theorem unmapped8A : Statement .unmapped8A := ⟨rfl, rfl⟩
theorem unmapped8B : Statement .unmapped8B := ⟨rfl, rfl⟩
theorem unmapped8C : Statement .unmapped8C := ⟨rfl, rfl⟩
theorem unmapped8D : Statement .unmapped8D := ⟨rfl, rfl⟩
theorem unmapped8E : Statement .unmapped8E := ⟨rfl, rfl⟩
theorem unmapped8F : Statement .unmapped8F := ⟨rfl, rfl⟩
theorem unmapped90 : Statement .unmapped90 := ⟨rfl, rfl⟩
theorem unmapped91 : Statement .unmapped91 := ⟨rfl, rfl⟩
theorem unmapped92 : Statement .unmapped92 := ⟨rfl, rfl⟩
theorem unmapped93 : Statement .unmapped93 := ⟨rfl, rfl⟩
theorem unmapped94 : Statement .unmapped94 := ⟨rfl, rfl⟩
theorem unmapped96 : Statement .unmapped96 := ⟨rfl, rfl⟩
theorem unmapped97 : Statement .unmapped97 := ⟨rfl, rfl⟩
theorem unmapped98 : Statement .unmapped98 := ⟨rfl, rfl⟩
theorem unmapped99 : Statement .unmapped99 := ⟨rfl, rfl⟩
theorem unmapped9A : Statement .unmapped9A := ⟨rfl, rfl⟩
theorem unmapped9B : Statement .unmapped9B := ⟨rfl, rfl⟩
theorem unmapped9C : Statement .unmapped9C := ⟨rfl, rfl⟩
theorem unmapped9D : Statement .unmapped9D := ⟨rfl, rfl⟩
theorem unmapped9E : Statement .unmapped9E := ⟨rfl, rfl⟩
theorem unmapped9F : Statement .unmapped9F := ⟨rfl, rfl⟩
theorem unmappedA0 : Statement .unmappedA0 := ⟨rfl, rfl⟩
theorem unmappedA1 : Statement .unmappedA1 := ⟨rfl, rfl⟩
theorem unmappedA3 : Statement .unmappedA3 := ⟨rfl, rfl⟩
theorem unmappedA4 : Statement .unmappedA4 := ⟨rfl, rfl⟩
theorem unmappedA6 : Statement .unmappedA6 := ⟨rfl, rfl⟩
theorem unmappedA7 : Statement .unmappedA7 := ⟨rfl, rfl⟩
theorem unmappedA8 : Statement .unmappedA8 := ⟨rfl, rfl⟩
theorem unmappedAB : Statement .unmappedAB := ⟨rfl, rfl⟩
theorem unmappedAC : Statement .unmappedAC := ⟨rfl, rfl⟩
theorem unmappedAE : Statement .unmappedAE := ⟨rfl, rfl⟩
theorem unmappedAF : Statement .unmappedAF := ⟨rfl, rfl⟩
theorem unmappedB0 : Statement .unmappedB0 := ⟨rfl, rfl⟩
theorem unmappedB1 : Statement .unmappedB1 := ⟨rfl, rfl⟩
theorem unmappedB2 : Statement .unmappedB2 := ⟨rfl, rfl⟩
theorem unmappedB3 : Statement .unmappedB3 := ⟨rfl, rfl⟩
theorem unmappedB4 : Statement .unmappedB4 := ⟨rfl, rfl⟩
theorem unmappedB5 : Statement .unmappedB5 := ⟨rfl, rfl⟩
theorem unmappedB6 : Statement .unmappedB6 := ⟨rfl, rfl⟩
theorem unmappedB7 : Statement .unmappedB7 := ⟨rfl, rfl⟩
theorem unmappedB8 : Statement .unmappedB8 := ⟨rfl, rfl⟩
theorem unmappedB9 : Statement .unmappedB9 := ⟨rfl, rfl⟩
theorem unmappedBA : Statement .unmappedBA := ⟨rfl, rfl⟩
theorem unmappedBB : Statement .unmappedBB := ⟨rfl, rfl⟩
theorem unmappedBC : Statement .unmappedBC := ⟨rfl, rfl⟩
theorem unmappedBD : Statement .unmappedBD := ⟨rfl, rfl⟩
theorem unmappedBE : Statement .unmappedBE := ⟨rfl, rfl⟩
theorem unmappedBF : Statement .unmappedBF := ⟨rfl, rfl⟩
theorem unmappedC0 : Statement .unmappedC0 := ⟨rfl, rfl⟩
theorem unmappedC1 : Statement .unmappedC1 := ⟨rfl, rfl⟩
theorem unmappedC2 : Statement .unmappedC2 := ⟨rfl, rfl⟩
theorem unmappedC3 : Statement .unmappedC3 := ⟨rfl, rfl⟩
theorem unmappedC4 : Statement .unmappedC4 := ⟨rfl, rfl⟩
theorem unmappedC5 : Statement .unmappedC5 := ⟨rfl, rfl⟩
theorem unmappedC6 : Statement .unmappedC6 := ⟨rfl, rfl⟩
theorem unmappedC7 : Statement .unmappedC7 := ⟨rfl, rfl⟩
theorem unmappedC8 : Statement .unmappedC8 := ⟨rfl, rfl⟩
theorem unmappedC9 : Statement .unmappedC9 := ⟨rfl, rfl⟩
theorem unmappedCA : Statement .unmappedCA := ⟨rfl, rfl⟩
theorem unmappedCB : Statement .unmappedCB := ⟨rfl, rfl⟩
theorem unmappedCC : Statement .unmappedCC := ⟨rfl, rfl⟩
theorem unmappedCD : Statement .unmappedCD := ⟨rfl, rfl⟩
theorem unmappedCE : Statement .unmappedCE := ⟨rfl, rfl⟩
theorem unmappedCF : Statement .unmappedCF := ⟨rfl, rfl⟩
theorem unmappedD0 : Statement .unmappedD0 := ⟨rfl, rfl⟩
theorem unmappedD1 : Statement .unmappedD1 := ⟨rfl, rfl⟩
theorem unmappedD2 : Statement .unmappedD2 := ⟨rfl, rfl⟩
theorem unmappedD3 : Statement .unmappedD3 := ⟨rfl, rfl⟩
theorem unmappedD4 : Statement .unmappedD4 := ⟨rfl, rfl⟩
theorem unmappedD5 : Statement .unmappedD5 := ⟨rfl, rfl⟩
theorem unmappedD6 : Statement .unmappedD6 := ⟨rfl, rfl⟩
theorem unmappedD7 : Statement .unmappedD7 := ⟨rfl, rfl⟩
theorem unmappedD8 : Statement .unmappedD8 := ⟨rfl, rfl⟩
theorem unmappedD9 : Statement .unmappedD9 := ⟨rfl, rfl⟩
theorem unmappedDA : Statement .unmappedDA := ⟨rfl, rfl⟩
theorem unmappedDB : Statement .unmappedDB := ⟨rfl, rfl⟩
theorem unmappedDC : Statement .unmappedDC := ⟨rfl, rfl⟩
theorem unmappedDD : Statement .unmappedDD := ⟨rfl, rfl⟩
theorem unmappedDE : Statement .unmappedDE := ⟨rfl, rfl⟩
theorem unmappedDF : Statement .unmappedDF := ⟨rfl, rfl⟩
theorem unmappedE0 : Statement .unmappedE0 := ⟨rfl, rfl⟩
theorem unmappedE1 : Statement .unmappedE1 := ⟨rfl, rfl⟩
theorem unmappedE2 : Statement .unmappedE2 := ⟨rfl, rfl⟩
theorem unmappedE3 : Statement .unmappedE3 := ⟨rfl, rfl⟩
theorem unmappedE4 : Statement .unmappedE4 := ⟨rfl, rfl⟩
theorem unmappedE5 : Statement .unmappedE5 := ⟨rfl, rfl⟩
theorem unmappedE6 : Statement .unmappedE6 := ⟨rfl, rfl⟩
theorem unmappedE7 : Statement .unmappedE7 := ⟨rfl, rfl⟩
theorem unmappedE9 : Statement .unmappedE9 := ⟨rfl, rfl⟩
theorem unmappedEB : Statement .unmappedEB := ⟨rfl, rfl⟩
theorem unmappedEC : Statement .unmappedEC := ⟨rfl, rfl⟩
theorem unmappedED : Statement .unmappedED := ⟨rfl, rfl⟩
theorem unmappedEE : Statement .unmappedEE := ⟨rfl, rfl⟩
theorem unmappedEF : Statement .unmappedEF := ⟨rfl, rfl⟩
theorem unmappedF0 : Statement .unmappedF0 := ⟨rfl, rfl⟩
theorem unmappedF1 : Statement .unmappedF1 := ⟨rfl, rfl⟩
theorem unmappedF2 : Statement .unmappedF2 := ⟨rfl, rfl⟩
theorem unmappedF3 : Statement .unmappedF3 := ⟨rfl, rfl⟩
theorem unmappedF4 : Statement .unmappedF4 := ⟨rfl, rfl⟩
theorem unmappedF5 : Statement .unmappedF5 := ⟨rfl, rfl⟩
theorem unmappedF6 : Statement .unmappedF6 := ⟨rfl, rfl⟩
theorem unmappedF7 : Statement .unmappedF7 := ⟨rfl, rfl⟩
theorem unmappedF8 : Statement .unmappedF8 := ⟨rfl, rfl⟩
theorem unmappedF9 : Statement .unmappedF9 := ⟨rfl, rfl⟩
theorem unmappedFA : Statement .unmappedFA := ⟨rfl, rfl⟩
theorem unmappedFB : Statement .unmappedFB := ⟨rfl, rfl⟩
theorem unmappedFC : Statement .unmappedFC := ⟨rfl, rfl⟩
theorem unmappedFD : Statement .unmappedFD := ⟨rfl, rfl⟩
theorem unmappedFE : Statement .unmappedFE := ⟨rfl, rfl⟩
theorem unmappedFF : Statement .unmappedFF := ⟨rfl, rfl⟩

end Sys2Proof.Laws.Encoding
end

