-- ==== Sys2Proof/Laws/Run.lean ====
section
/-! SUPPORT. Runs of the core taken apart one step at a time. -/

namespace Sys2Proof

open Machine

/-- No step: the state itself. -/
theorem core_run_zero {s t : State} : Host.Core.run core 0 s = .next t ↔ s = t :=
  ⟨fun h => Host.Outcome.next.inj h, fun h => congrArg Host.Outcome.next h⟩

/-- A run of `k + 1` steps is a step and a run of `k`. -/
theorem core_run_succ {k : Nat} {s t : State} :
    Host.Core.run core (k + 1) s = .next t ↔ ∃ u, step s = .next u ∧ Host.Core.run core k u = .next t := by
  have hstep : core.step s = step s := rfl
  cases h : step s with
  | next u =>
    simp only [Host.Core.run, hstep, h]
    exact ⟨fun hr => ⟨u, rfl, hr⟩, fun ⟨_, hv, hr⟩ => Host.Outcome.next.inj hv ▸ hr⟩
  | fault f => simp [Host.Core.run, hstep, h]
  | refused r => simp [Host.Core.run, hstep, h]

/-- The end of a run from a Running state is the end of the run from the state after its first step (R92). -/
theorem endOfRun_succ {fuel : Nat} {s u t : State} (hr : s.run = .running) (h : step s = .next u) :
    endOfRun (fuel + 1) s = some t ↔ endOfRun fuel u = some t := by
  simp [endOfRun, hr, h]

/-- The end of a run from a Halted state is that state (R92). -/
theorem endOfRun_halted (fuel : Nat) {s : State} (h : s.run = .halted) : endOfRun fuel s = some s := by
  cases fuel <;> simp [endOfRun, h]

end Sys2Proof
end

