-- ==== Sys2Proof/Tests/Slice0.lean ====
section
/-! SUPPORT. The model's own tests: checks of well-formedness, the decoding of words written out from the encoding tables,
single steps taken from `spec/95_test_vectors.md`, and a witness for every statement that has hypotheses. -/

namespace Sys2Proof.Tests

open Sys2Proof Sys2Proof.Machine

/-! ## Helpers -/

/-- A Running state with the given bytes at `pc` and the given other cells. -/
def running (a x y p : Byte) (pc : Addr) (code : List Byte) (cells : List (Addr × Byte)) : State where
  a := a
  x := x
  y := y
  p := p
  pc := pc
  run := .running
  mem := cells.foldl (fun m c => m.write c.1 c.2) (Memory.writeBytes [] pc code)

/-- The next state, where there is one. -/
def next? : Answer → Option State
  | .next t => some t
  | .fault _ => none
  | .refused _ => none

/-- The registers after a step, in the order `A X Y P pc` of `95_test_vectors.md`. -/
def regsAfter (s : State) : Option (Byte × Byte × Byte × Byte × Addr) :=
  (next? (step s)).map fun t => (t.a, t.x, t.y, t.p, t.pc)

/-- The byte in a cell after a step. -/
def cellAfter (s : State) (addr : Addr) : Option Byte := (next? (step s)).map fun t => t.mem.read addr

/-- The address the resolver answers, where it answers one. -/
def addressOf (mode : Mode) (s : State) : Option Addr := (resolve mode s).toOption

/-! ## Well-formedness: each check refuses an ill-formed term -/

theorem test_encoding_well_formed : encodingWellFormed [0xA9, 0x05] = true := by decide
theorem test_encoding_lacks_operand : encodingWellFormed [0xAD, 0x34] = false := by decide
theorem test_encoding_too_long : encodingWellFormed [0xAA, 0x00] = false := by decide
theorem test_encoding_empty : encodingWellFormed [] = false := by decide
/-- R162: a program of 0x8001 bytes does not fit, one of 0x8000 does. -/
theorem test_program_too_long : programFits (List.replicate 0x8001 0) = false := by
  unfold programFits
  rw [List.length_replicate]
  decide
theorem test_program_fits : programFits (List.replicate 0x8000 0) = true := by
  unfold programFits
  rw [List.length_replicate]
  decide
/-- R31, R26: addresses out of order, an address outside the 65536 cells, and a listed 0x00 are not canonical. -/
theorem test_memory_out_of_order : ¬ Memory.wf [(5, 1), (3, 1)] := by decide
theorem test_memory_outside : ¬ Memory.wf [(65536, 1)] := by decide
theorem test_memory_lists_zero : ¬ Memory.wf [(3, 0)] := by decide
theorem test_memory_canonical : Memory.wf [(3, 1), (65535, 7)] := by decide

/-! ## The opcode byte of LDA Absolute: one constant (R54), which must be none of the other nine named bytes (R53, R55) -/

theorem test_opcode_lda_abs_free :
    Config.opcodeLdaAbs ∉ [0xA9, 0xA5, 0xA2, 0x85, 0x95, 0xAA, 0xE8, 0xEA, 0x00] := by decide
theorem test_opcode_lda_abs_decodes (lo hi : Byte) :
    decode [Config.opcodeLdaAbs, lo, hi] = .ok (.ldaAbs (joinBytes hi lo), []) := rfl

/-! ## Decoding: each opcode byte of R55 and R57, written out, row by row of the opcode map -/

theorem test_decode_row_0 :
    decode [0x00] = .ok (.brk, []) ∧
    decode [0x01] = .ok (.unmapped01, []) ∧
    decode [0x02] = .ok (.unmapped02, []) ∧
    decode [0x03] = .ok (.unmapped03, []) ∧
    decode [0x04] = .ok (.unmapped04, []) ∧
    decode [0x05] = .ok (.unmapped05, []) ∧
    decode [0x06] = .ok (.unmapped06, []) ∧
    decode [0x07] = .ok (.unmapped07, []) ∧
    decode [0x08] = .ok (.unmapped08, []) ∧
    decode [0x09] = .ok (.unmapped09, []) ∧
    decode [0x0A] = .ok (.unmapped0A, []) ∧
    decode [0x0B] = .ok (.unmapped0B, []) ∧
    decode [0x0C] = .ok (.unmapped0C, []) ∧
    decode [0x0D] = .ok (.unmapped0D, []) ∧
    decode [0x0E] = .ok (.unmapped0E, []) ∧
    decode [0x0F] = .ok (.unmapped0F, []) :=
  ⟨rfl, rfl, rfl, rfl, rfl, rfl, rfl, rfl, rfl, rfl, rfl, rfl, rfl, rfl, rfl, rfl⟩

theorem test_decode_row_1 :
    decode [0x10] = .ok (.unmapped10, []) ∧
    decode [0x11] = .ok (.unmapped11, []) ∧
    decode [0x12] = .ok (.unmapped12, []) ∧
    decode [0x13] = .ok (.unmapped13, []) ∧
    decode [0x14] = .ok (.unmapped14, []) ∧
    decode [0x15] = .ok (.unmapped15, []) ∧
    decode [0x16] = .ok (.unmapped16, []) ∧
    decode [0x17] = .ok (.unmapped17, []) ∧
    decode [0x18] = .ok (.unmapped18, []) ∧
    decode [0x19] = .ok (.unmapped19, []) ∧
    decode [0x1A] = .ok (.unmapped1A, []) ∧
    decode [0x1B] = .ok (.unmapped1B, []) ∧
    decode [0x1C] = .ok (.unmapped1C, []) ∧
    decode [0x1D] = .ok (.unmapped1D, []) ∧
    decode [0x1E] = .ok (.unmapped1E, []) ∧
    decode [0x1F] = .ok (.unmapped1F, []) :=
  ⟨rfl, rfl, rfl, rfl, rfl, rfl, rfl, rfl, rfl, rfl, rfl, rfl, rfl, rfl, rfl, rfl⟩

theorem test_decode_row_2 :
    decode [0x20] = .ok (.unmapped20, []) ∧
    decode [0x21] = .ok (.unmapped21, []) ∧
    decode [0x22] = .ok (.unmapped22, []) ∧
    decode [0x23] = .ok (.unmapped23, []) ∧
    decode [0x24] = .ok (.unmapped24, []) ∧
    decode [0x25] = .ok (.unmapped25, []) ∧
    decode [0x26] = .ok (.unmapped26, []) ∧
    decode [0x27] = .ok (.unmapped27, []) ∧
    decode [0x28] = .ok (.unmapped28, []) ∧
    decode [0x29] = .ok (.unmapped29, []) ∧
    decode [0x2A] = .ok (.unmapped2A, []) ∧
    decode [0x2B] = .ok (.unmapped2B, []) ∧
    decode [0x2C] = .ok (.unmapped2C, []) ∧
    decode [0x2D] = .ok (.unmapped2D, []) ∧
    decode [0x2E] = .ok (.unmapped2E, []) ∧
    decode [0x2F] = .ok (.unmapped2F, []) :=
  ⟨rfl, rfl, rfl, rfl, rfl, rfl, rfl, rfl, rfl, rfl, rfl, rfl, rfl, rfl, rfl, rfl⟩

theorem test_decode_row_3 :
    decode [0x30] = .ok (.unmapped30, []) ∧
    decode [0x31] = .ok (.unmapped31, []) ∧
    decode [0x32] = .ok (.unmapped32, []) ∧
    decode [0x33] = .ok (.unmapped33, []) ∧
    decode [0x34] = .ok (.unmapped34, []) ∧
    decode [0x35] = .ok (.unmapped35, []) ∧
    decode [0x36] = .ok (.unmapped36, []) ∧
    decode [0x37] = .ok (.unmapped37, []) ∧
    decode [0x38] = .ok (.unmapped38, []) ∧
    decode [0x39] = .ok (.unmapped39, []) ∧
    decode [0x3A] = .ok (.unmapped3A, []) ∧
    decode [0x3B] = .ok (.unmapped3B, []) ∧
    decode [0x3C] = .ok (.unmapped3C, []) ∧
    decode [0x3D] = .ok (.unmapped3D, []) ∧
    decode [0x3E] = .ok (.unmapped3E, []) ∧
    decode [0x3F] = .ok (.unmapped3F, []) :=
  ⟨rfl, rfl, rfl, rfl, rfl, rfl, rfl, rfl, rfl, rfl, rfl, rfl, rfl, rfl, rfl, rfl⟩

theorem test_decode_row_4 :
    decode [0x40] = .ok (.unmapped40, []) ∧
    decode [0x41] = .ok (.unmapped41, []) ∧
    decode [0x42] = .ok (.unmapped42, []) ∧
    decode [0x43] = .ok (.unmapped43, []) ∧
    decode [0x44] = .ok (.unmapped44, []) ∧
    decode [0x45] = .ok (.unmapped45, []) ∧
    decode [0x46] = .ok (.unmapped46, []) ∧
    decode [0x47] = .ok (.unmapped47, []) ∧
    decode [0x48] = .ok (.unmapped48, []) ∧
    decode [0x49] = .ok (.unmapped49, []) ∧
    decode [0x4A] = .ok (.unmapped4A, []) ∧
    decode [0x4B] = .ok (.unmapped4B, []) ∧
    decode [0x4C] = .ok (.unmapped4C, []) ∧
    decode [0x4D] = .ok (.unmapped4D, []) ∧
    decode [0x4E] = .ok (.unmapped4E, []) ∧
    decode [0x4F] = .ok (.unmapped4F, []) :=
  ⟨rfl, rfl, rfl, rfl, rfl, rfl, rfl, rfl, rfl, rfl, rfl, rfl, rfl, rfl, rfl, rfl⟩

theorem test_decode_row_5 :
    decode [0x50] = .ok (.unmapped50, []) ∧
    decode [0x51] = .ok (.unmapped51, []) ∧
    decode [0x52] = .ok (.unmapped52, []) ∧
    decode [0x53] = .ok (.unmapped53, []) ∧
    decode [0x54] = .ok (.unmapped54, []) ∧
    decode [0x55] = .ok (.unmapped55, []) ∧
    decode [0x56] = .ok (.unmapped56, []) ∧
    decode [0x57] = .ok (.unmapped57, []) ∧
    decode [0x58] = .ok (.unmapped58, []) ∧
    decode [0x59] = .ok (.unmapped59, []) ∧
    decode [0x5A] = .ok (.unmapped5A, []) ∧
    decode [0x5B] = .ok (.unmapped5B, []) ∧
    decode [0x5C] = .ok (.unmapped5C, []) ∧
    decode [0x5D] = .ok (.unmapped5D, []) ∧
    decode [0x5E] = .ok (.unmapped5E, []) ∧
    decode [0x5F] = .ok (.unmapped5F, []) :=
  ⟨rfl, rfl, rfl, rfl, rfl, rfl, rfl, rfl, rfl, rfl, rfl, rfl, rfl, rfl, rfl, rfl⟩

theorem test_decode_row_6 :
    decode [0x60] = .ok (.unmapped60, []) ∧
    decode [0x61] = .ok (.unmapped61, []) ∧
    decode [0x62] = .ok (.unmapped62, []) ∧
    decode [0x63] = .ok (.unmapped63, []) ∧
    decode [0x64] = .ok (.unmapped64, []) ∧
    decode [0x65] = .ok (.unmapped65, []) ∧
    decode [0x66] = .ok (.unmapped66, []) ∧
    decode [0x67] = .ok (.unmapped67, []) ∧
    decode [0x68] = .ok (.unmapped68, []) ∧
    decode [0x69] = .ok (.unmapped69, []) ∧
    decode [0x6A] = .ok (.unmapped6A, []) ∧
    decode [0x6B] = .ok (.unmapped6B, []) ∧
    decode [0x6C] = .ok (.unmapped6C, []) ∧
    decode [0x6D] = .ok (.unmapped6D, []) ∧
    decode [0x6E] = .ok (.unmapped6E, []) ∧
    decode [0x6F] = .ok (.unmapped6F, []) :=
  ⟨rfl, rfl, rfl, rfl, rfl, rfl, rfl, rfl, rfl, rfl, rfl, rfl, rfl, rfl, rfl, rfl⟩

theorem test_decode_row_7 :
    decode [0x70] = .ok (.unmapped70, []) ∧
    decode [0x71] = .ok (.unmapped71, []) ∧
    decode [0x72] = .ok (.unmapped72, []) ∧
    decode [0x73] = .ok (.unmapped73, []) ∧
    decode [0x74] = .ok (.unmapped74, []) ∧
    decode [0x75] = .ok (.unmapped75, []) ∧
    decode [0x76] = .ok (.unmapped76, []) ∧
    decode [0x77] = .ok (.unmapped77, []) ∧
    decode [0x78] = .ok (.unmapped78, []) ∧
    decode [0x79] = .ok (.unmapped79, []) ∧
    decode [0x7A] = .ok (.unmapped7A, []) ∧
    decode [0x7B] = .ok (.unmapped7B, []) ∧
    decode [0x7C] = .ok (.unmapped7C, []) ∧
    decode [0x7D] = .ok (.unmapped7D, []) ∧
    decode [0x7E] = .ok (.unmapped7E, []) ∧
    decode [0x7F] = .ok (.unmapped7F, []) :=
  ⟨rfl, rfl, rfl, rfl, rfl, rfl, rfl, rfl, rfl, rfl, rfl, rfl, rfl, rfl, rfl, rfl⟩

theorem test_decode_row_8 :
    decode [0x80] = .ok (.unmapped80, []) ∧
    decode [0x81] = .ok (.unmapped81, []) ∧
    decode [0x82] = .ok (.unmapped82, []) ∧
    decode [0x83] = .ok (.unmapped83, []) ∧
    decode [0x84] = .ok (.unmapped84, []) ∧
    decode [0x85, 0x10] = .ok (.staZp 0x10, []) ∧
    decode [0x86] = .ok (.unmapped86, []) ∧
    decode [0x87] = .ok (.unmapped87, []) ∧
    decode [0x88] = .ok (.unmapped88, []) ∧
    decode [0x89] = .ok (.unmapped89, []) ∧
    decode [0x8A] = .ok (.unmapped8A, []) ∧
    decode [0x8B] = .ok (.unmapped8B, []) ∧
    decode [0x8C] = .ok (.unmapped8C, []) ∧
    decode [0x8D] = .ok (.unmapped8D, []) ∧
    decode [0x8E] = .ok (.unmapped8E, []) ∧
    decode [0x8F] = .ok (.unmapped8F, []) :=
  ⟨rfl, rfl, rfl, rfl, rfl, rfl, rfl, rfl, rfl, rfl, rfl, rfl, rfl, rfl, rfl, rfl⟩

theorem test_decode_row_9 :
    decode [0x90] = .ok (.unmapped90, []) ∧
    decode [0x91] = .ok (.unmapped91, []) ∧
    decode [0x92] = .ok (.unmapped92, []) ∧
    decode [0x93] = .ok (.unmapped93, []) ∧
    decode [0x94] = .ok (.unmapped94, []) ∧
    decode [0x95, 0xFF] = .ok (.staZpX 0xFF, []) ∧
    decode [0x96] = .ok (.unmapped96, []) ∧
    decode [0x97] = .ok (.unmapped97, []) ∧
    decode [0x98] = .ok (.unmapped98, []) ∧
    decode [0x99] = .ok (.unmapped99, []) ∧
    decode [0x9A] = .ok (.unmapped9A, []) ∧
    decode [0x9B] = .ok (.unmapped9B, []) ∧
    decode [0x9C] = .ok (.unmapped9C, []) ∧
    decode [0x9D] = .ok (.unmapped9D, []) ∧
    decode [0x9E] = .ok (.unmapped9E, []) ∧
    decode [0x9F] = .ok (.unmapped9F, []) :=
  ⟨rfl, rfl, rfl, rfl, rfl, rfl, rfl, rfl, rfl, rfl, rfl, rfl, rfl, rfl, rfl, rfl⟩

theorem test_decode_row_A :
    decode [0xA0] = .ok (.unmappedA0, []) ∧
    decode [0xA1] = .ok (.unmappedA1, []) ∧
    decode [0xA2, 0x01] = .ok (.ldxImm 0x01, []) ∧
    decode [0xA3] = .ok (.unmappedA3, []) ∧
    decode [0xA4] = .ok (.unmappedA4, []) ∧
    decode [0xA5, 0x10] = .ok (.ldaZp 0x10, []) ∧
    decode [0xA6] = .ok (.unmappedA6, []) ∧
    decode [0xA7] = .ok (.unmappedA7, []) ∧
    decode [0xA8] = .ok (.unmappedA8, []) ∧
    decode [0xA9, 0x05] = .ok (.ldaImm 0x05, []) ∧
    decode [0xAA] = .ok (.tax, []) ∧
    decode [0xAB] = .ok (.unmappedAB, []) ∧
    decode [0xAC] = .ok (.unmappedAC, []) ∧
    decode [0xAD, 0x34, 0x12] = .ok (.ldaAbs 0x1234, []) ∧
    decode [0xAE] = .ok (.unmappedAE, []) ∧
    decode [0xAF] = .ok (.unmappedAF, []) :=
  ⟨rfl, rfl, rfl, rfl, rfl, rfl, rfl, rfl, rfl, rfl, rfl, rfl, rfl, rfl, rfl, rfl⟩

theorem test_decode_row_B :
    decode [0xB0] = .ok (.unmappedB0, []) ∧
    decode [0xB1] = .ok (.unmappedB1, []) ∧
    decode [0xB2] = .ok (.unmappedB2, []) ∧
    decode [0xB3] = .ok (.unmappedB3, []) ∧
    decode [0xB4] = .ok (.unmappedB4, []) ∧
    decode [0xB5] = .ok (.unmappedB5, []) ∧
    decode [0xB6] = .ok (.unmappedB6, []) ∧
    decode [0xB7] = .ok (.unmappedB7, []) ∧
    decode [0xB8] = .ok (.unmappedB8, []) ∧
    decode [0xB9] = .ok (.unmappedB9, []) ∧
    decode [0xBA] = .ok (.unmappedBA, []) ∧
    decode [0xBB] = .ok (.unmappedBB, []) ∧
    decode [0xBC] = .ok (.unmappedBC, []) ∧
    decode [0xBD] = .ok (.unmappedBD, []) ∧
    decode [0xBE] = .ok (.unmappedBE, []) ∧
    decode [0xBF] = .ok (.unmappedBF, []) :=
  ⟨rfl, rfl, rfl, rfl, rfl, rfl, rfl, rfl, rfl, rfl, rfl, rfl, rfl, rfl, rfl, rfl⟩

theorem test_decode_row_C :
    decode [0xC0] = .ok (.unmappedC0, []) ∧
    decode [0xC1] = .ok (.unmappedC1, []) ∧
    decode [0xC2] = .ok (.unmappedC2, []) ∧
    decode [0xC3] = .ok (.unmappedC3, []) ∧
    decode [0xC4] = .ok (.unmappedC4, []) ∧
    decode [0xC5] = .ok (.unmappedC5, []) ∧
    decode [0xC6] = .ok (.unmappedC6, []) ∧
    decode [0xC7] = .ok (.unmappedC7, []) ∧
    decode [0xC8] = .ok (.unmappedC8, []) ∧
    decode [0xC9] = .ok (.unmappedC9, []) ∧
    decode [0xCA] = .ok (.unmappedCA, []) ∧
    decode [0xCB] = .ok (.unmappedCB, []) ∧
    decode [0xCC] = .ok (.unmappedCC, []) ∧
    decode [0xCD] = .ok (.unmappedCD, []) ∧
    decode [0xCE] = .ok (.unmappedCE, []) ∧
    decode [0xCF] = .ok (.unmappedCF, []) :=
  ⟨rfl, rfl, rfl, rfl, rfl, rfl, rfl, rfl, rfl, rfl, rfl, rfl, rfl, rfl, rfl, rfl⟩

theorem test_decode_row_D :
    decode [0xD0] = .ok (.unmappedD0, []) ∧
    decode [0xD1] = .ok (.unmappedD1, []) ∧
    decode [0xD2] = .ok (.unmappedD2, []) ∧
    decode [0xD3] = .ok (.unmappedD3, []) ∧
    decode [0xD4] = .ok (.unmappedD4, []) ∧
    decode [0xD5] = .ok (.unmappedD5, []) ∧
    decode [0xD6] = .ok (.unmappedD6, []) ∧
    decode [0xD7] = .ok (.unmappedD7, []) ∧
    decode [0xD8] = .ok (.unmappedD8, []) ∧
    decode [0xD9] = .ok (.unmappedD9, []) ∧
    decode [0xDA] = .ok (.unmappedDA, []) ∧
    decode [0xDB] = .ok (.unmappedDB, []) ∧
    decode [0xDC] = .ok (.unmappedDC, []) ∧
    decode [0xDD] = .ok (.unmappedDD, []) ∧
    decode [0xDE] = .ok (.unmappedDE, []) ∧
    decode [0xDF] = .ok (.unmappedDF, []) :=
  ⟨rfl, rfl, rfl, rfl, rfl, rfl, rfl, rfl, rfl, rfl, rfl, rfl, rfl, rfl, rfl, rfl⟩

theorem test_decode_row_E :
    decode [0xE0] = .ok (.unmappedE0, []) ∧
    decode [0xE1] = .ok (.unmappedE1, []) ∧
    decode [0xE2] = .ok (.unmappedE2, []) ∧
    decode [0xE3] = .ok (.unmappedE3, []) ∧
    decode [0xE4] = .ok (.unmappedE4, []) ∧
    decode [0xE5] = .ok (.unmappedE5, []) ∧
    decode [0xE6] = .ok (.unmappedE6, []) ∧
    decode [0xE7] = .ok (.unmappedE7, []) ∧
    decode [0xE8] = .ok (.inx, []) ∧
    decode [0xE9] = .ok (.unmappedE9, []) ∧
    decode [0xEA, 0x37] = .ok (.nop, []) ∧
    decode [0xEB] = .ok (.unmappedEB, []) ∧
    decode [0xEC] = .ok (.unmappedEC, []) ∧
    decode [0xED] = .ok (.unmappedED, []) ∧
    decode [0xEE] = .ok (.unmappedEE, []) ∧
    decode [0xEF] = .ok (.unmappedEF, []) :=
  ⟨rfl, rfl, rfl, rfl, rfl, rfl, rfl, rfl, rfl, rfl, rfl, rfl, rfl, rfl, rfl, rfl⟩

theorem test_decode_row_F :
    decode [0xF0] = .ok (.unmappedF0, []) ∧
    decode [0xF1] = .ok (.unmappedF1, []) ∧
    decode [0xF2] = .ok (.unmappedF2, []) ∧
    decode [0xF3] = .ok (.unmappedF3, []) ∧
    decode [0xF4] = .ok (.unmappedF4, []) ∧
    decode [0xF5] = .ok (.unmappedF5, []) ∧
    decode [0xF6] = .ok (.unmappedF6, []) ∧
    decode [0xF7] = .ok (.unmappedF7, []) ∧
    decode [0xF8] = .ok (.unmappedF8, []) ∧
    decode [0xF9] = .ok (.unmappedF9, []) ∧
    decode [0xFA] = .ok (.unmappedFA, []) ∧
    decode [0xFB] = .ok (.unmappedFB, []) ∧
    decode [0xFC] = .ok (.unmappedFC, []) ∧
    decode [0xFD] = .ok (.unmappedFD, []) ∧
    decode [0xFE] = .ok (.unmappedFE, []) ∧
    decode [0xFF] = .ok (.unmappedFF, []) :=
  ⟨rfl, rfl, rfl, rfl, rfl, rfl, rfl, rfl, rfl, rfl, rfl, rfl, rfl, rfl, rfl, rfl⟩

/-- R50: the decoder stops, by name, where operand bytes are missing. -/
theorem test_decode_missing_operand : decode [0xAD, 0x34] = .error (.operandMissing 0xAD) := rfl
theorem test_decode_nothing : decode [] = .error .noBytes := rfl
/-- The word 0x1234AD, first byte lowest, is `AD 34 12`. -/
theorem test_table_word : decodeTableWord 24 0x1234AD = some (.ldaAbs 0x1234) := by decide
theorem test_table_word_opcode_only : decodeTableWord 8 0xA9 = some (.ldaImm 0x00) := by decide
/-- The instruction placed by `withFetchWord` is the first to run after reset. -/
theorem test_first_instruction_after_reset :
    regsAfter (State.reset.withFetchWord 16 0x05A9) = some (0x05, 0x00, 0x00, 0x00, 0x0002) := by decide

/-! ## Flag updater: V-ZN-2, 6, 7, 9, 11, 13 -/

theorem test_updateZN :
    updateZN 0x00 0x01 = 0x00 ∧ updateZN 0x02 0x80 = 0x80 ∧ updateZN 0x80 0x00 = 0x02 ∧
    updateZN 0x7D 0x00 = 0x7F ∧ updateZN 0xFF 0x01 = 0x7D ∧ updateZN 0xFF 0x80 = 0xFD := by decide

/-! ## Resolver: V-AM vectors, two for the modes with corner cases -/

/-- V-AM-1, V-AM-4. -/
theorem test_resolve_direct :
    addressOf .immediate (running 0 0 0 0 0x8001 [] []) = some 0x8001 ∧
    addressOf .zeroPage (running 0 0 0 0 0x8001 [0xFF] []) = some 0x00FF := by decide
/-- V-AM-5, V-AM-6. -/
theorem test_resolve_absolute :
    addressOf .absolute (running 0 0 0 0 0x8001 [0x34, 0x12] []) = some 0x1234 ∧
    addressOf .absolute (running 0 0 0 0 0xFFFF [0x34, 0x12] []) = some 0x1234 := by decide
/-- V-AM-8, V-AM-9, V-AM-11. -/
theorem test_resolve_zero_page_indexed :
    addressOf .zeroPageX (running 0 0x01 0 0 0x8001 [0xFF] []) = some 0x0000 ∧
    addressOf .zeroPageX (running 0 0x90 0 0 0x8001 [0x80] []) = some 0x0010 ∧
    addressOf .zeroPageY (running 0 0 0x20 0 0x8001 [0xF0] []) = some 0x0010 := by decide
/-- V-AM-12, V-AM-13, V-AM-14. -/
theorem test_resolve_absolute_indexed :
    addressOf .absoluteX (running 0 0x01 0 0 0x8001 [0xFF, 0x12] []) = some 0x1300 ∧
    addressOf .absoluteX (running 0 0x02 0 0 0x8001 [0xFF, 0xFF] []) = some 0x0001 ∧
    addressOf .absoluteY (running 0 0 0x20 0 0x8001 [0xF0, 0x80] []) = some 0x8110 := by decide
/-- V-AM-15, V-AM-16, V-AM-17. -/
theorem test_resolve_indirect_x :
    addressOf .indirectX (running 0 0x04 0 0 0x8001 [0x20] [(0x24, 0x74), (0x25, 0x20)]) = some 0x2074 ∧
    addressOf .indirectX (running 0 0x01 0 0 0x8001 [0xFE] [(0xFF, 0x34), (0x00, 0x12)]) = some 0x1234 ∧
    addressOf .indirectX (running 0 0x02 0 0 0x8001 [0xFF] [(0x01, 0xCD), (0x02, 0xAB)]) = some 0xABCD := by decide
/-- V-AM-18, V-AM-19, V-AM-20. -/
theorem test_resolve_indirect_y :
    addressOf .indirectY (running 0 0 0x10 0 0x8001 [0x86] [(0x86, 0x28), (0x87, 0x40)]) = some 0x4038 ∧
    addressOf .indirectY (running 0 0 0x01 0 0x8001 [0xFF] [(0xFF, 0xFF), (0x00, 0xFF)]) = some 0x0000 ∧
    addressOf .indirectY (running 0 0 0x01 0 0x8001 [0x10] [(0x10, 0xFF), (0x11, 0x12)]) = some 0x1300 := by decide
/-- V-AM-21. -/
theorem test_resolve_no_addressing :
    resolve .noAddressing (running 0 0 0 0 0x8001 [] []) = .error .resolveNoAddressing := rfl

/-! ## Single steps -/

/-- V-LDA-2. -/
theorem test_lda_immediate_zero :
    regsAfter (running 0x55 0 0 0x80 0x8000 [0xA9, 0x00] []) = some (0x00, 0, 0, 0x02, 0x8002) := by decide
/-- V-LDA-3. -/
theorem test_lda_immediate_negative :
    regsAfter (running 0 0 0 0x7F 0x8000 [0xA9, 0x80] []) = some (0x80, 0, 0, 0xFD, 0x8002) := by decide
/-- V-LDA-4. -/
theorem test_lda_zero_page :
    regsAfter (running 0 0 0 0 0x8000 [0xA5, 0x10] [(0x10, 0x55)]) = some (0x55, 0, 0, 0, 0x8002) := by decide
/-- V-LDA-5. -/
theorem test_lda_zero_page_top :
    regsAfter (running 0x01 0 0 0 0x8000 [0xA5, 0xFF] []) = some (0x00, 0, 0, 0x02, 0x8002) := by decide
/-- V-LDA-8. -/
theorem test_lda_absolute_own_byte :
    regsAfter (running 0 0 0 0 0x8000 [0xAD, 0x00, 0x80] []) = some (0xAD, 0, 0, 0x80, 0x8003) := by decide
/-- V-LDA-9. -/
theorem test_lda_absolute_across_the_top :
    regsAfter (running 0 0 0 0 0xFFFE [0xAD, 0x34, 0x12] [(0x1234, 0x80)]) = some (0x80, 0, 0, 0x80, 0x0001) := by
  decide
/-- V-LDX-1. -/
theorem test_ldx_immediate :
    regsAfter (running 0x99 0 0 0x80 0x8000 [0xA2, 0x01] []) = some (0x99, 0x01, 0, 0x00, 0x8002) := by decide
/-- V-LDX-2. -/
theorem test_ldx_immediate_zero :
    regsAfter (running 0 0x07 0x33 0 0x8000 [0xA2, 0x00] []) = some (0, 0x00, 0x33, 0x02, 0x8002) := by decide
/-- V-STA-2: the value stored is zero and `P` stays. -/
theorem test_sta_zero_page :
    regsAfter (running 0 0 0 0 0x8000 [0x85, 0x10] [(0x10, 0x77)]) = some (0, 0, 0, 0, 0x8002) ∧
    cellAfter (running 0 0 0 0 0x8000 [0x85, 0x10] [(0x10, 0x77)]) 0x10 = some 0x00 := by decide
/-- V-STA-3. -/
theorem test_sta_zero_page_top :
    regsAfter (running 0x80 0 0 0x02 0x8000 [0x85, 0xFF] []) = some (0x80, 0, 0, 0x02, 0x8002) ∧
    cellAfter (running 0x80 0 0 0x02 0x8000 [0x85, 0xFF] []) 0xFF = some 0x80 := by decide
/-- V-STA-5: the sum wraps inside the zero page. -/
theorem test_sta_zero_page_x_wraps :
    cellAfter (running 0x42 0x01 0 0 0x8000 [0x95, 0xFF] []) 0x0000 = some 0x42 ∧
    cellAfter (running 0x42 0x01 0 0 0x8000 [0x95, 0xFF] []) 0x0100 = some 0x00 := by decide
/-- V-STA-7: `Y` is no index. -/
theorem test_sta_zero_page_x_ignores_y :
    cellAfter (running 0x42 0x00 0x55 0 0x8000 [0x95, 0x10] []) 0x10 = some 0x42 := by decide
/-- V-TAX-2, V-TAX-4. -/
theorem test_tax :
    regsAfter (running 0x00 0x55 0 0 0x8000 [0xAA] []) = some (0x00, 0x00, 0, 0x02, 0x8001) ∧
    regsAfter (running 0x01 0x01 0 0xFF 0x8000 [0xAA] []) = some (0x01, 0x01, 0, 0x7D, 0x8001) := by decide
/-- V-INX-2, V-INX-5. -/
theorem test_inx :
    regsAfter (running 0 0xFF 0 0x80 0x8000 [0xE8] []) = some (0, 0x00, 0, 0x02, 0x8001) ∧
    regsAfter (running 0xAA 0xFE 0x77 0x7D 0x8000 [0xE8] []) = some (0xAA, 0xFF, 0x77, 0xFD, 0x8001) := by decide
/-- V-INX-6: `pc` wraps. -/
theorem test_inx_at_the_top :
    regsAfter (running 0 0 0 0 0xFFFF [0xE8] []) = some (0, 0x01, 0, 0, 0x0000) := by decide
/-- V-NOP-0. -/
theorem test_nop :
    regsAfter (running 0x12 0x34 0x56 0x7F 0x8000 [0xEA, 0x37] []) = some (0x12, 0x34, 0x56, 0x7F, 0x8002) := by decide
/-- V-NOP-0: the skipped byte is not read. -/
theorem test_nop_transactions : stepTransactions (running 0 0 0 0 0x8000 [0xEA, 0x37] []) = [.read 0x8000] := by
  decide
/-- V-BRK-1. -/
theorem test_brk :
    regsAfter (running 0x12 0x34 0x56 0xFF 0x8000 [0x00] []) = some (0x12, 0x34, 0x56, 0xFF, 0x8001) ∧
    (next? (step (running 0x12 0x34 0x56 0xFF 0x8000 [0x00] []))).map State.run = some .halted := by decide
/-- V-BRK-2. -/
theorem test_brk_at_the_top :
    regsAfter (running 0 0 0 0 0xFFFF [0x00] []) = some (0, 0, 0, 0, 0x0000) := by decide
/-- V-UNM-1, V-UNM-5. -/
theorem test_unmapped :
    regsAfter (running 0x12 0x34 0x56 0x7F 0x8000 [0x8D, 0x00, 0x02] []) = some (0x12, 0x34, 0x56, 0x7F, 0x8001) ∧
    regsAfter (running 0 0x01 0 0 0x8000 [0xB5, 0x10] []) = some (0, 0x01, 0, 0, 0x8001) := by decide
/-- V-LDA-8, V-STA-6: the transactions in order. -/
theorem test_transactions :
    stepTransactions (running 0 0 0 0 0x8000 [0xAD, 0x00, 0x80] []) =
      [.read 0x8000, .read 0x8001, .read 0x8002, .read 0x8000] ∧
    stepTransactions (running 0x42 0x90 0 0 0x8000 [0x95, 0x80] []) =
      [.read 0x8000, .read 0x8001, .write 0x0010 0x42] := by decide

/-! ## The host's moves -/

/-- V-RST-1. -/
theorem test_reset_request :
    requestReset { a := 0x11, x := 0x22, y := 0x33, p := 0xFF, pc := 0x4444, run := .halted,
                   mem := [(0xFFFC, 0x34), (0xFFFD, 0x12)] } =
      { a := 0x00, x := 0x00, y := 0x33, p := 0x00, pc := 0x1234, run := .halted,
        mem := [(0xFFFC, 0x34), (0xFFFD, 0x12)] } := by decide
/-- V-LD-1: the vector's low byte is 0x00, its high byte 0x80. -/
theorem test_load :
    (loadProgram [0xA9, 0x05, 0x00] powerOn).map State.mem =
      some [(0x8000, 0xA9), (0x8001, 0x05), (0xFFFD, 0x80)] := by decide
/-- V-LD-2: an empty program writes the vector only. -/
theorem test_load_empty : (loadProgram [] powerOn).map State.mem = some [(0xFFFD, 0x80)] := by decide
/-- V-PWR-2: a run straight after power-on halts at once with `pc` = 0001. -/
theorem test_run_after_power_on :
    tick (serve .run (.live powerOn)).1 = .live { powerOn with pc := 0x0001 } := by decide
/-- R24: the host has no move during a run. -/
theorem test_no_move_while_running :
    (serve .reset (.live (running 0 0 0 0 0x8000 [0xE8] []))).2 = .noMove := by decide
/-- R141: after a fatal condition only `power_on`. -/
theorem test_power_on_after_fatal :
    serve .run (.fatal .resolveNoAddressing) = (.fatal .resolveNoAddressing, .noMove) ∧
    serve .powerOn (.fatal .resolveNoAddressing) = (.live powerOn, .done) := by decide
/-- A host write of 0x00 removes the cell from the list (log 11). -/
theorem test_write_zero_removes : Memory.write [(0x10, 0x55)] 0x10 0x00 = [] := by decide

/-! ## Witnesses: the hypotheses of each statement can be met, each clause at an edge of its range -/

theorem witness_EncodeInvertsDecode :
    decode [0xAD, 0xFF, 0xFF, 0x01] = .ok (.ldaAbs 0xFFFF, [0x01]) ∧ Instr.ldaAbs 0xFFFF ≠ .nop ∧
    decode [0xEA, 0xFF] = .ok (.nop, []) := ⟨rfl, by decide, rfl⟩
theorem witness_OpcodeByteDecidesLength :
    decode [0xEA] = .error (.operandMissing 0xEA) ∧ decode [0xAD, 0x00] = .error (.operandMissing 0xAD) ∧
    decode [0x95, 0xFF] = .ok (.staZpX 0xFF, []) ∧ decode [0xFF] = .ok (.unmappedFF, []) := ⟨rfl, rfl, rfl, rfl⟩
theorem witness_CanonicalMemoryIsExtensional :
    Memory.wf [(0, 1), (65535, 2)] ∧ ∀ addr, Memory.read [(0, 1), (65535, 2)] addr =
      ((Memory.write [] 0xFFFF 2).write 0x0000 1).read addr := ⟨by decide, fun _ => rfl⟩
theorem witness_StepKeepsMemoryCanonical :
    Inv (running 0x42 0 0 0 0x8000 [0x85, 0xFF] []) ∧
    (next? (step (running 0x42 0 0 0 0x8000 [0x85, 0xFF] []))).isSome := by decide
theorem witness_HostMovesKeepMemoryCanonical :
    Inv (running 0 0 0 0 0xFFFF [0x01] []) ∧ BoardInv (.fatal .resolveNoAddressing) := by
  exact ⟨by decide, trivial⟩
theorem witness_LoadPlacesProgramAndVector :
    (List.replicate 0x8000 (0x7F : Byte)).length ≤ 0x8000 ∧ 0x7FFF < (List.replicate 0x8000 (0x7F : Byte)).length ∧
    (0x7FFF : Nat) ≠ 0x7FFC ∧ (0x7FFF : Nat) ≠ 0x7FFD ∧ (0x7FFF : Addr).toNat < 0x8000 ∧
    0x8000 + [(0x7F : Byte)].length ≤ (0x8001 : Addr).toNat ∧ (0x8001 : Addr) ≠ 0xFFFC ∧ (0x8001 : Addr) ≠ 0xFFFD := by
  rw [List.length_replicate]
  decide
/-- Where the image meets the vector: image bytes at 0xFFFB and 0xFFFE, beside the two that the vector overwrites. -/
theorem witness_LoadPlacesProgramAndVector_image_edge :
    0x7FFB < (List.replicate 0x8000 (0x7F : Byte)).length ∧ (0x7FFB : Nat) ≠ 0x7FFC ∧ (0x7FFB : Nat) ≠ 0x7FFD ∧
    0x7FFE < (List.replicate 0x8000 (0x7F : Byte)).length ∧ (0x7FFE : Nat) ≠ 0x7FFC ∧ (0x7FFE : Nat) ≠ 0x7FFD ∧
    BitVec.ofNat 16 (0x8000 + 0x7FFB) = (0xFFFB : Addr) ∧ BitVec.ofNat 16 (0x8000 + 0x7FFE) = (0xFFFE : Addr) := by
  rw [List.length_replicate]
  decide
/-- Where the cells outside the image meet the vector: an image that ends at 0xFFFA leaves 0xFFFB, and 0xFFFE. -/
theorem witness_LoadPlacesProgramAndVector_outside_edge :
    (List.replicate 0x7FFB (0x7F : Byte)).length ≤ 0x8000 ∧
    0x8000 + (List.replicate 0x7FFB (0x7F : Byte)).length ≤ (0xFFFB : Addr).toNat ∧
    (0xFFFB : Addr) ≠ 0xFFFC ∧ (0xFFFB : Addr) ≠ 0xFFFD ∧
    0x8000 + (List.replicate 0x7FFB (0x7F : Byte)).length ≤ (0xFFFE : Addr).toNat ∧
    (0xFFFE : Addr) ≠ 0xFFFC ∧ (0xFFFE : Addr) ≠ 0xFFFD := by
  rw [List.length_replicate]
  decide
theorem witness_OversizedLoadChangesNothing :
    0x8000 < (List.replicate 0x8001 (0x7F : Byte)).length ∧ powerOn.run = .halted := by
  rw [List.length_replicate]
  decide
theorem witness_LoadAndRunStartsAtImage :
    (List.replicate 0x8000 (0x7F : Byte)).length ≤ 0x8000 ∧ powerOn.run = .halted := by
  rw [List.length_replicate]
  decide
theorem witness_HostMovesFollowTheTable :
    powerOn.run = .halted ∧ powerOn.startRun.run = .running ∧ Request.reset ≠ .powerOn ∧
    (List.replicate 0x8000 (0x7F : Byte)).length ≤ 0x8000 ∧ 0x8000 < (List.replicate 0x8001 (0x7F : Byte)).length := by
  rw [List.length_replicate, List.length_replicate]
  decide
theorem witness_StepEnabledExactlyWhileRunning :
    powerOn.run = .halted ∧ (next? (step powerOn.startRun)).isSome ∧ powerOn.startRun.run = .running := by decide
theorem witness_HaltedStepIsRefused : powerOn.run = .halted := rfl
theorem witness_RunStateTransitions :
    powerOn.run = .halted ∧ Request.reset ≠ .run ∧ Request.reset ≠ .loadAndRun [] ∧
    (running 0 0 0 0 0xFFFF [0x01] []).run = .running ∧
    (running 0 0 0 0 0xFFFF [0x01] []).mem.read 0xFFFF ≠ 0x00 ∧
    (running 0 0 0 0 0xFFFF [0x00] []).mem.read 0xFFFF = 0x00 := by decide
theorem witness_StepRunsDecodedInstruction :
    decode [(running 0 0 0 0 0xFFFF [0xAD, 0x34, 0x12] []).mem.read 0xFFFF,
            (running 0 0 0 0 0xFFFF [0xAD, 0x34, 0x12] []).mem.read 0x0000,
            (running 0 0 0 0 0xFFFF [0xAD, 0x34, 0x12] []).mem.read 0x0001] = .ok (.ldaAbs 0x1234, []) := rfl
theorem witness_NopSkipsOneUnreadByte :
    (running 0 0 0 0 0xFFFF [0xEA, 0x00] []).run = .running ∧
    (running 0 0 0 0 0xFFFF [0xEA, 0x00] []).mem.read 0xFFFF = 0xEA := by decide
theorem witness_BrkOnlyHalts :
    (running 0 0 0 0 0xFFFF [0x00] []).run = .running ∧ (running 0 0 0 0 0xFFFF [0x00] []).mem.read 0xFFFF = 0x00 ∧
    (next? (exec .brk (running 0 0 0 0 0x8001 [] []))).map State.run = some .halted := by decide
theorem witness_UnmappedInstructionDoesNothing :
    Instr.unmapped01.opcode ∉ [0xA9, 0xA5, 0xAD, 0xA2, 0x85, 0x95, 0xAA, 0xE8, 0xEA, 0x00] ∧
    Instr.unmappedFF.opcode ∉ [0xA9, 0xA5, 0xAD, 0xA2, 0x85, 0x95, 0xAA, 0xE8, 0xEA, 0x00] := by decide
theorem witness_UnmappedByteIsOneByteNoOp :
    (running 0 0 0 0 0xFFFF [0xFF] []).run = .running ∧
    (running 0 0 0 0 0xFFFF [0xFF] []).mem.read 0xFFFF ∉
      [0xA9, 0xA5, 0xAD, 0xA2, 0x85, 0x95, 0xAA, 0xE8, 0xEA, 0x00] := by decide
theorem witness_FlagsFollowDestinationRegister :
    (Instr.ldaImm 0xFF).opcode ∈ [0xA9, 0xA5, 0xAD] ∧ Instr.inx.opcode ∈ [0xA2, 0xAA, 0xE8] ∧
    (Instr.staZp 0x00).opcode ∉ [0xA9, 0xA5, 0xAD, 0xA2, 0xAA, 0xE8] ∧
    (next? (exec (.ldaImm 0xFF) (running 0 0 0 0xFF 0x8001 [] []))).map (fun t => (t.a, t.p)) = some (0xFF, 0xFD) ∧
    (next? (exec .inx (running 0 0xFF 0 0xFF 0x8001 [] []))).map (fun t => (t.x, t.p)) = some (0x00, 0x7F) ∧
    (next? (exec (.staZp 0x00) (running 0 0 0 0xFF 0x8001 [] []))).map State.p = some 0xFF := by decide
theorem witness_InertStatusBitsKept :
    (next? (exec .brk (running 0 0 0 0xFF 0x8001 [] []))).map State.p = some 0xFF ∧
    Instr.brk.opcode ∉ [0xA9, 0xA5, 0xAD, 0xA2, 0xAA, 0xE8] ∧ (loadProgram [] powerOn).isSome := by decide
theorem witness_LoadFrame :
    (Instr.ldaAbs 0xFFFF).opcode ∈ [0xA9, 0xA5, 0xAD, 0xA2] ∧ (Instr.ldaAbs 0xFFFF).opcode ≠ 0xA2 ∧
    (Instr.ldxImm 0x00).opcode = 0xA2 ∧
    (next? (exec (.ldaAbs 0xFFFF) (running 0 0 0 0 0x8001 [] []))).isSome ∧
    (next? (exec (.ldxImm 0x00) (running 0 0 0 0 0x8001 [] []))).isSome := by decide
theorem witness_StoreFrame :
    (next? (exec (.staZp 0xFF) (running 0x42 0 0 0 0x8001 [] []))).isSome ∧
    (effectiveAddress (.zeroPage 0xFF) (running 0x42 0 0 0 0x8001 [] [])).toOption = some 0x00FF ∧
    (next? (exec (.staZpX 0xFF) (running 0x42 1 0 0 0x8001 [] []))).isSome ∧
    (effectiveAddress (.zeroPageX 0xFF) (running 0x42 1 0 0 0x8001 [] [])).toOption = some 0x0000 ∧
    (0x0100 : Addr) ≠ 0x00FF ∧ (0x0100 : Addr) ≠ 0x0000 := by decide
theorem witness_NoOperandFrame :
    Instr.tax.opcode ∉ [0xA9, 0xA5, 0xAD, 0xA2, 0x85, 0x95] ∧ Instr.nop.opcode ∉ [0xAA, 0xE8] ∧
    Instr.brk.opcode ≠ 0xEA ∧ Instr.unmappedFF.opcode ≠ 0x00 ∧
    (next? (exec .tax (running 0 0 0 0 0x8001 [] []))).isSome ∧
    (next? (exec .unmappedFF (running 0 0 0 0 0x8001 [] []))).isSome := by decide
theorem witness_YIsNeitherReadNorWritten :
    (next? (step (running 0x42 0 0x55 0 0x8000 [0x95, 0x10] []))).map State.y = some 0x55 := by decide
theorem witness_PcAdvancesByInstructionLength :
    (next? (step (running 0 0 0 0 0xFFFF [0xEA] []))).map State.pc = some 0x0001 ∧
    (next? (step (running 0 0 0 0 0xFFFF [0xAD] []))).map State.pc = some 0x0002 ∧
    (next? (step (running 0 0 0 0 0xFFFF [0x01] []))).map State.pc = some 0x0000 := by decide
theorem witness_RunEndsJustPastZeroOpcode :
    powerOn.startRun.run = .running ∧ EndsAt powerOn.startRun { powerOn with pc := 0x0001 } :=
  ⟨rfl, 1, by decide⟩
theorem witness_RunEndsExactlyWhenZeroFetched :
    powerOn.startRun.run = .running ∧ powerOn.startRun.mem.read powerOn.startRun.pc = 0x00 := by decide
theorem witness_RunsWriteOnlyTheZeroPage :
    (next? (Host.Core.run core 1 (running 0x42 0 0x55 0 0x8000 [0x85, 0xFF] []))).isSome ∧
    0x100 ≤ (0x0100 : Addr).toNat := by decide
theorem witness_StepFollowsResolverPseudocode :
    (running 0 0 0 0 0xFFFF [0xA9] []).run = .running ∧
    (running 0 0 0 0 0xFFFF [0xA9] []).mem.read 0xFFFF = 0xA9 ∧
    (running 0 0 0 0 0xFFFF [0xA5] []).mem.read 0xFFFF = 0xA5 ∧
    (running 0 0 0 0 0xFFFF [0xAD] []).mem.read 0xFFFF = 0xAD ∧
    (running 0 0 0 0 0xFFFF [0xA2] []).mem.read 0xFFFF = 0xA2 ∧
    (running 0 0 0 0 0xFFFF [0x85] []).mem.read 0xFFFF = 0x85 ∧
    (running 0 0 0 0 0xFFFF [0x95] []).mem.read 0xFFFF = 0x95 := by decide
/-- The two memories differ in the byte that NOP skips. -/
theorem witness_StepDependsOnlyOnItsReads :
    (next? (step (running 0 0 0 0 0x8000 [0xEA, 0x37] []))).isSome ∧
    agreeOnReads (stepTransactions (running 0 0 0 0 0x8000 [0xEA, 0x37] []))
      (running 0 0 0 0 0x8000 [0xEA, 0x37] []).mem (running 0 0 0 0 0x8000 [0xEA, 0x00] []).mem := by
  refine ⟨by decide, fun addr h => ?_⟩
  rw [test_nop_transactions] at h
  obtain rfl : addr = 0x8000 := by simpa using h
  decide
theorem witness_StepWritesAreItsTransactions :
    (next? (step (running 0x42 0 0 0 0x8000 [0x85, 0xFF] []))).isSome ∧
    Transaction.write 0x00FF 0x42 ∈ stepTransactions (running 0x42 0 0 0 0x8000 [0x85, 0xFF] []) := by decide
/-- The stored cell as the next opcode byte, and as the first and the second byte after it, at the top of the zero page
and across address 0x0000. -/
theorem witness_StoreIsSeenByNextFetch :
    (next? (exec (.staZp 0xFF) (running 0xE8 0 0 0 0x00FE [] []))).map State.pc = some 0x00FF ∧
    (next? (exec (.staZp 0x00) (running 0xE8 0 0 0 0xFFFE [] []))).map (fun t => t.pc + 1) = some 0x0000 ∧
    (next? (exec (.staZp 0x00) (running 0xE8 0 0 0 0xFFFD [] []))).map (fun t => t.pc + 2) = some 0x0000 ∧
    (effectiveAddress (.zeroPage 0xFF) (running 0xE8 0 0 0 0x00FE [] [])).toOption = some 0x00FF ∧
    (effectiveAddress (.zeroPage 0x00) (running 0xE8 0 0 0 0xFFFE [] [])).toOption = some 0x0000 ∧
    (effectiveAddress (.zeroPage 0x00) (running 0xE8 0 0 0 0xFFFD [] [])).toOption = some 0x0000 := by decide
theorem witness_StoreIsSeenByNextFetch_indexed :
    (next? (exec (.staZpX 0xFF) (running 0xE8 0x02 0 0 0x0000 [] []))).map State.pc = some 0x0001 ∧
    (next? (exec (.staZpX 0xFF) (running 0xE8 0x02 0 0 0xFFFF [] []))).map (fun t => t.pc + 1) = some 0x0001 ∧
    (next? (exec (.staZpX 0xFF) (running 0xE8 0x02 0 0 0xFFFE [] []))).map (fun t => t.pc + 2) = some 0x0001 ∧
    (effectiveAddress (.zeroPageX 0xFF) (running 0xE8 0x02 0 0 0x0000 [] [])).toOption = some 0x0001 ∧
    (effectiveAddress (.zeroPageX 0xFF) (running 0xE8 0x02 0 0 0xFFFF [] [])).toOption = some 0x0001 ∧
    (effectiveAddress (.zeroPageX 0xFF) (running 0xE8 0x02 0 0 0xFFFE [] [])).toOption = some 0x0001 := by decide

end Sys2Proof.Tests
end

section
namespace Sys2Proof.Proofs
open Sys2Proof.Machine

/-- Settles O17: R91 enables a step only while Running, so `step` on a Halted state is its refusing branch. -/
theorem haltedStepIsRefused : Obligations.HaltedStepIsRefused := by
  intro s hHalted
  exact step_halted hHalted

end Sys2Proof.Proofs
end

section
/-! What each instruction does and which cells it touches, and its effect by opcode byte. -/

namespace Sys2Proof.Proofs
open Sys2Proof.Machine

@[simp] theorem exec_ldaImm (v : Byte) (s : State) :
    exec (.ldaImm v) s = .next (((s.setA v).updateFlags v).advance 1) := rfl
@[simp] theorem exec_ldaZp (b : Byte) (s : State) :
    exec (.ldaZp b) s = .next (((s.setA (s.mem.read (zeroPageAddr b))).updateFlags
      (s.mem.read (zeroPageAddr b))).advance 1) := rfl
@[simp] theorem exec_ldaAbs (target : Addr) (s : State) :
    exec (.ldaAbs target) s =
      .next (((s.setA (s.mem.read target)).updateFlags (s.mem.read target)).advance 2) := rfl
@[simp] theorem exec_ldxImm (v : Byte) (s : State) :
    exec (.ldxImm v) s = .next (((s.setX v).updateFlags v).advance 1) := rfl
@[simp] theorem exec_staZp (b : Byte) (s : State) :
    exec (.staZp b) s = .next ((s.store (zeroPageAddr b) s.a).advance 1) := rfl
@[simp] theorem exec_staZpX (b : Byte) (s : State) :
    exec (.staZpX b) s = .next ((s.store (zeroPageAddr (b + s.x)) s.a).advance 1) := rfl
@[simp] theorem exec_tax (s : State) : exec .tax s = .next ((s.setX s.a).updateFlags s.a) := rfl
@[simp] theorem exec_inx (s : State) :
    exec .inx s = .next ((s.setX (s.x + 1)).updateFlags (s.x + 1)) := rfl
@[simp] theorem exec_nop (s : State) : exec .nop s = .next (s.advance 1) := rfl
@[simp] theorem exec_brk (s : State) : exec .brk s = .next s.halt := rfl

@[simp] theorem instrTransactions_ldaImm (v : Byte) (s : State) :
    instrTransactions (.ldaImm v) s = [.read s.pc] := rfl
@[simp] theorem instrTransactions_ldaZp (b : Byte) (s : State) :
    instrTransactions (.ldaZp b) s = [.read s.pc, .read (zeroPageAddr b)] := rfl
@[simp] theorem instrTransactions_ldaAbs (target : Addr) (s : State) :
    instrTransactions (.ldaAbs target) s = [.read s.pc, .read (s.pc + 1), .read target] := rfl
@[simp] theorem instrTransactions_ldxImm (v : Byte) (s : State) :
    instrTransactions (.ldxImm v) s = [.read s.pc] := rfl
@[simp] theorem instrTransactions_staZp (b : Byte) (s : State) :
    instrTransactions (.staZp b) s = [.read s.pc, .write (zeroPageAddr b) s.a] := rfl
@[simp] theorem instrTransactions_staZpX (b : Byte) (s : State) :
    instrTransactions (.staZpX b) s = [.read s.pc, .write (zeroPageAddr (b + s.x)) s.a] := rfl
@[simp] theorem instrTransactions_tax (s : State) : instrTransactions .tax s = [] := rfl
@[simp] theorem instrTransactions_inx (s : State) : instrTransactions .inx s = [] := rfl
@[simp] theorem instrTransactions_nop (s : State) : instrTransactions .nop s = [] := rfl
@[simp] theorem instrTransactions_brk (s : State) : instrTransactions .brk s = [] := rfl

/-- `Effect` with the opcode bytes that give it (R55; log 4): the next states of an instruction with opcode byte `op`. -/
inductive OpcodeEffect (s : State) (op : Byte) : State → Prop where
  /-- LDA. -/
  | loadA (v : Byte) (h : op ∈ [0xA9, 0xA5, 0xAD]) :
    OpcodeEffect s op (((s.setA v).updateFlags v).advance (opcodeAdvance op))
  /-- LDX. -/
  | loadX (v : Byte) (h : op = 0xA2) : OpcodeEffect s op (((s.setX v).updateFlags v).advance 1)
  /-- STA. -/
  | storeA (b : Byte) (h : op ∈ [0x85, 0x95]) :
    OpcodeEffect s op ((s.store (zeroPageAddr b) s.a).advance 1)
  /-- TAX and INX. -/
  | writeX (v : Byte) (h : op ∈ [0xAA, 0xE8]) : OpcodeEffect s op ((s.setX v).updateFlags v)
  /-- NOP. -/
  | skip (h : op = 0xEA) : OpcodeEffect s op (s.advance 1)
  /-- BRK. -/
  | halt (h : op = 0x00) : OpcodeEffect s op s.halt
  /-- An unmapped opcode. -/
  | none (h : op ∉ mappedOpcodes) : OpcodeEffect s op s

/-- `instr_cases` as an eliminator: the ten named instructions, and one case for the 246 unmapped opcode bytes. -/
theorem instr_elim {motive : Instr → Prop}
    (ldaImm : ∀ v, motive (.ldaImm v)) (ldaZp : ∀ b, motive (.ldaZp b)) (ldaAbs : ∀ a, motive (.ldaAbs a))
    (ldxImm : ∀ v, motive (.ldxImm v)) (staZp : ∀ b, motive (.staZp b)) (staZpX : ∀ b, motive (.staZpX b))
    (tax : motive .tax) (inx : motive .inx) (nop : motive .nop) (brk : motive .brk)
    (unmapped : ∀ i, i.opcode ∉ mappedOpcodes → (∀ s, exec i s = .next s) → (∀ s, instrTransactions i s = []) →
      motive i) (i : Instr) : motive i := by
  rcases instr_cases i with ⟨v, rfl⟩ | ⟨b, rfl⟩ | ⟨a, rfl⟩ | ⟨v, rfl⟩ | ⟨b, rfl⟩ | ⟨b, rfl⟩ | rfl | rfl | rfl | rfl |
    ⟨hop, hnone⟩
  · exact ldaImm v
  · exact ldaZp b
  · exact ldaAbs a
  · exact ldxImm v
  · exact staZp b
  · exact staZpX b
  · exact tax
  · exact inx
  · exact nop
  · exact brk
  · exact unmapped i hop (fun s => (hnone s).1) (fun s => (hnone s).2)

/-- The one next state of an instruction is an effect of its opcode byte. -/
theorem opcodeEffect_of_exec {i : Instr} {s t : State} (h : exec i s = .next t) :
    OpcodeEffect s i.opcode t := by
  cases i using instr_elim with
  | ldaImm v => cases h; exact .loadA (op := 0xA9) v (by decide)
  | ldaZp b => cases h; exact .loadA (op := 0xA5) _ (by decide)
  | ldaAbs a => cases h; exact .loadA (op := 0xAD) _ (by decide)
  | ldxImm v => cases h; exact .loadX v rfl
  | staZp b => cases h; exact .storeA (op := 0x85) b (by decide)
  | staZpX b => cases h; exact .storeA (op := 0x95) (b + s.x) (by decide)
  | tax => cases h; exact .writeX (op := 0xAA) s.a (by decide)
  | inx => cases h; exact .writeX (op := 0xE8) (s.x + 1) (by decide)
  | nop => cases h; exact .skip rfl
  | brk => cases h; exact .halt rfl
  | unmapped i hop hexec => cases (hexec s).symm.trans h; exact .none hop

end Sys2Proof.Proofs
end

section
/-! What an instruction does to `pc`, to `P` and to `Y`. -/

namespace Sys2Proof.Proofs
open Sys2Proof.Machine

/-- The column "adv" of R55 by opcode byte: NOP's one byte is D5, the byte 0xAD D6 (logs 3, 4). -/
theorem opcodeAdvance_eq (op : Byte) :
    opcodeAdvance op =
      if op ∈ [0xA9, 0xA5, 0xA2, 0x85, 0x95, 0xEA] then 1 else if op = 0xAD then 2 else 0 := by
  simp only [opcodeAdvance, opcodeMode, Config.nopSkip, Config.opcodeLdaAbs]
  split_ifs <;> simp_all [Mode.operandBytes]

/-- An opcode byte outside the rows of R55 that own a further byte owns none. -/
theorem opcodeAdvance_eq_zero {op : Byte} (h : op ∉ [0xA9, 0xA5, 0xA2, 0x85, 0x95, 0xEA, 0xAD]) :
    opcodeAdvance op = 0 := by
  have hOne : [0xA9, 0xA5, 0xA2, 0x85, 0x95, 0xEA] ⊆ [0xA9, 0xA5, 0xA2, 0x85, 0x95, 0xEA, (0xAD : Byte)] := by decide
  have hTwo : op ≠ 0xAD := by rintro rfl; exact absurd (by decide) h
  rw [opcodeAdvance_eq, if_neg (fun hm => h (hOne hm)), if_neg hTwo]

/-- An unmapped opcode owns no byte after its own (R57). -/
theorem opcodeAdvance_of_unmapped {op : Byte} (h : op ∉ mappedOpcodes) : opcodeAdvance op = 0 := by
  have hMapped : [0xA9, 0xA5, 0xA2, 0x85, 0x95, 0xEA, 0xAD] ⊆ mappedOpcodes := by decide
  exact opcodeAdvance_eq_zero fun hm => h (hMapped hm)

/-- After the opcode fetch `pc` moves past the bytes the opcode owns (R56, R96). -/
theorem pc_of_exec {i : Instr} {s t : State} (h : exec i s = .next t) :
    t.pc = s.pc + BitVec.ofNat 16 (opcodeAdvance i.opcode) := by
  have he := opcodeEffect_of_exec h
  generalize i.opcode = op at he ⊢
  cases he with
  | loadA v hop => rfl
  | loadX v hop => subst hop; rfl
  | storeA b hop => rcases List.mem_pair.mp hop with rfl | rfl <;> rfl
  | writeX v hop => rcases List.mem_pair.mp hop with rfl | rfl <;> exact (BitVec.add_zero _).symm
  | skip hop => subst hop; rfl
  | halt hop => subst hop; exact (BitVec.add_zero _).symm
  | none hop => rw [opcodeAdvance_of_unmapped hop]; exact (BitVec.add_zero _).symm

/-- The Zero flag of an updated `P` (R97). -/
theorem zero_updateZN (p v : Byte) : (updateZN p v).getLsbD 1 = true ↔ v = 0x00 := by
  rw [getLsbD_updateZN, if_neg (by decide), if_pos rfl, beq_iff_eq]

/-- The Negative flag of an updated `P` (R97). -/
theorem negative_updateZN (p v : Byte) : (updateZN p v).getLsbD 7 = v.getLsbD 7 := by
  rw [getLsbD_updateZN, if_pos rfl]

/-- The inert bits of an updated `P` (R18). -/
theorem inert_updateZN (p v : Byte) {k : Nat} (h1 : k ≠ 1) (h7 : k ≠ 7) :
    (updateZN p v).getLsbD k = p.getLsbD k := by
  rw [getLsbD_updateZN, if_neg h7, if_neg h1]

/-- The three things an instruction can do to `P`, by opcode byte: update it from the new `A`, from the new `X`, or
leave it (R98, R18). -/
theorem p_of_exec {i : Instr} {s t : State} (h : exec i s = .next t) :
    (i.opcode ∈ [0xA9, 0xA5, 0xAD] ∧ t.p = updateZN s.p t.a) ∨
    (i.opcode ∈ [0xA2, 0xAA, 0xE8] ∧ t.p = updateZN s.p t.x) ∨
    (i.opcode ∉ [0xA9, 0xA5, 0xAD, 0xA2, 0xAA, 0xE8] ∧ t.p = s.p) := by
  have he := opcodeEffect_of_exec h
  generalize i.opcode = op at he ⊢
  cases he with
  | loadA v hop => exact .inl ⟨hop, rfl⟩
  | loadX v hop => exact .inr (.inl ⟨List.mem_cons.mpr (.inl hop), rfl⟩)
  | writeX v hop => exact .inr (.inl ⟨List.mem_cons_of_mem _ hop, rfl⟩)
  | storeA b hop => rcases List.mem_pair.mp hop with rfl | rfl <;> exact .inr (.inr ⟨by decide, rfl⟩)
  | skip hop => subst hop; exact .inr (.inr ⟨by decide, rfl⟩)
  | halt hop => subst hop; exact .inr (.inr ⟨by decide, rfl⟩)
  | none hop =>
    have hMapped : [0xA9, 0xA5, 0xAD, 0xA2, 0xAA, 0xE8] ⊆ mappedOpcodes := by decide
    exact .inr (.inr ⟨fun hm => hop (hMapped hm), rfl⟩)

/-- The opcode bytes of the three LDA, and those of LDX, TAX and INX, are among the six that write flags. -/
theorem flagOpcodes_subset :
    [0xA9, 0xA5, 0xAD] ⊆ [0xA9, 0xA5, 0xAD, 0xA2, 0xAA, (0xE8 : Byte)] ∧
    [0xA2, 0xAA, 0xE8] ⊆ [0xA9, 0xA5, 0xAD, 0xA2, 0xAA, (0xE8 : Byte)] := by decide

/-- An instruction that is no LDA, LDX, TAX or INX keeps all of `P` (R18). -/
theorem p_of_exec_other {i : Instr} {s t : State} (h : exec i s = .next t)
    (hop : i.opcode ∉ [0xA9, 0xA5, 0xAD, 0xA2, 0xAA, 0xE8]) : t.p = s.p := by
  obtain ⟨hA, hX⟩ := flagOpcodes_subset
  rcases p_of_exec h with ⟨hm, -⟩ | ⟨hm, -⟩ | ⟨-, hp⟩
  · exact absurd (hA hm) hop
  · exact absurd (hX hm) hop
  · exact hp

/-- Every instruction keeps the inert status bits (R18). -/
theorem inert_of_exec {i : Instr} {s t : State} (h : exec i s = .next t) {k : Nat} (h1 : k ≠ 1) (h7 : k ≠ 7) :
    t.p.getLsbD k = s.p.getLsbD k := by
  rcases p_of_exec h with ⟨-, hp⟩ | ⟨-, hp⟩ | ⟨-, hp⟩ <;> rw [hp]
  · exact inert_updateZN _ _ h1 h7
  · exact inert_updateZN _ _ h1 h7

/-- No instruction writes `Y` (R12). -/
theorem y_of_effect {s t : State} (h : Effect s t) : t.y = s.y := by
  cases h <;> rfl

/-- No instruction reads `Y` (R12). -/
theorem exec_other_y {i : Instr} {s t : State} (y' : Byte) (h : exec i s = .next t) :
    exec i { s with y := y' } = .next { t with y := y' } := by
  cases i using instr_elim with
  | unmapped i hop hexec => cases (hexec s).symm.trans h; exact hexec _
  | _ => cases h; rfl

end Sys2Proof.Proofs
end

section
/-! Memory and the port: what the transactions write, and that a step depends on no cell they do not read. -/

namespace Sys2Proof.Proofs
open Sys2Proof.Machine

/-- What an instruction does to memory is what its transactions write: nothing, or `A` to one zero-page cell
(R38, R41). -/
theorem mem_of_exec {i : Instr} {s t : State} (h : exec i s = .next t) :
    ((∀ e ∈ instrTransactions i s, e.isWrite = false) ∧ t.mem = s.mem) ∨
    ∃ b, instrTransactions i s = [.read s.pc, .write (zeroPageAddr b) s.a] ∧
      t.mem = s.mem.write (zeroPageAddr b) s.a := by
  cases i using instr_elim with
  | staZp b => cases h; exact .inr ⟨b, rfl, rfl⟩
  | staZpX b => cases h; exact .inr ⟨b + s.x, rfl, rfl⟩
  | unmapped i hop hexec hts => cases (hexec s).symm.trans h; exact .inl ⟨by simp [hts], rfl⟩
  | _ => cases h; exact .inl ⟨by simp [Transaction.isWrite], rfl⟩

/-- Transactions without a write leave memory alone (R32). -/
theorem applyTransactions_of_reads {ts : List Transaction} (m : Memory) (h : ∀ e ∈ ts, e.isWrite = false) :
    applyTransactions ts m = m := by
  induction ts with
  | nil => rfl
  | cons e ts ih =>
    cases e with
    | read addr => exact ih fun e he => h e (List.mem_cons_of_mem _ he)
    | write addr v => exact absurd (h _ List.mem_cons_self) (Bool.noConfusion ·)

/-- A step reads the opcode byte, then does what its instruction does (R93). -/
theorem stepTransactions_running {s : State} (h : s.run = .running) :
    stepTransactions s = .read s.pc :: instrTransactions s.fetchInstr s.fetchAdvance := by
  simp only [stepTransactions, h]

/-- Which cells an instruction touches does not depend on what memory holds: no opcode uses an indirect mode (R82). -/
theorem instrTransactions_other_mem (i : Instr) (s : State) (m : Memory) :
    instrTransactions i { s with mem := m } = instrTransactions i s := by
  cases i using instr_elim with
  | unmapped i hop hexec hts => rw [hts, hts]
  | _ => rfl

/-- An instruction depends on memory only through the cells its transactions read (R32, R38). -/
theorem exec_other_mem {i : Instr} {s t : State} {m : Memory} (h : exec i s = .next t)
    (hm : agreeOnReads (instrTransactions i s) s.mem m) :
    exec i { s with mem := m } = .next { t with mem := applyTransactions (instrTransactions i s) m } := by
  cases i using instr_elim with
  | ldaZp b =>
    have hcell : s.mem.read (zeroPageAddr b) = m.read (zeroPageAddr b) := hm _ (by simp)
    cases h
    rw [exec_ldaZp, ← hcell]; rfl
  | ldaAbs a =>
    have hcell : s.mem.read a = m.read a := hm _ (by simp)
    cases h
    rw [exec_ldaAbs, ← hcell]; rfl
  | unmapped i hop hexec hts => cases (hexec s).symm.trans h; rw [hts]; exact hexec _
  | _ => cases h; rfl

/-- The instruction is read back from its opcode byte and its operand field (R50, R51). -/
theorem instrOf_opcode_operandField (i : Instr) :
    instrOf i.opcode (i.operandField.getD 0 0) (i.operandField.getD 1 0) = i := by
  cases i
  case ldaImm v => exact (rfl : instrOf 0xA9 v 0 = .ldaImm v)
  case ldaZp b => exact (rfl : instrOf 0xA5 b 0 = .ldaZp b)
  case ldaAbs a => exact (instrOf_opcodeLdaAbs _ _).trans (congrArg Instr.ldaAbs (joinBytes_split a))
  case ldxImm v => exact (rfl : instrOf 0xA2 v 0 = .ldxImm v)
  case staZp b => exact (rfl : instrOf 0x85 b 0 = .staZp b)
  case staZpX b => exact (rfl : instrOf 0x95 b 0 = .staZpX b)
  all_goals rfl

/-- An unmapped opcode byte alone decides the instruction (R57). -/
theorem instr_eq_of_unmapped {i j : Instr} (h : i.opcode = j.opcode) (hi : i.opcode ∉ mappedOpcodes) : i = j := by
  have hfield : ∀ k : Instr, k.opcode ∉ mappedOpcodes → k.operandField = [] := fun k hk =>
    List.length_eq_zero_iff.mp ((length_operandField k).trans (opcodeAdvance_of_unmapped hk))
  rw [← instrOf_opcode_operandField i, ← instrOf_opcode_operandField j, hfield i hi, hfield j (h ▸ hi), h]

/-- The instruction of an opcode byte depends on the first byte after it only where that is an operand byte, and on
the second only for LDA Absolute (R52, R55). -/
theorem instrOf_congr {op b1 b2 c1 c2 : Byte} (h1 : op ∈ [0xA9, 0xA5, 0xA2, 0x85, 0x95, 0xAD] → b1 = c1)
    (h2 : op = 0xAD → b2 = c2) : instrOf op b1 b2 = instrOf op c1 c2 := by
  by_cases hop : op ∈ mappedOpcodes
  · simp only [mappedOpcodes, Config.opcodeLdaAbs, List.mem_cons, List.not_mem_nil, or_false] at hop
    rcases hop with rfl | rfl | rfl | rfl | rfl | rfl | rfl | rfl | rfl | rfl
    · rw [h1 (by decide)]; rfl
    · rw [h1 (by decide)]; rfl
    · rw [h1 (by decide), h2 rfl]
    · rw [h1 (by decide)]; rfl
    · rw [h1 (by decide)]; rfl
    · rw [h1 (by decide)]; rfl
    · rfl
    · rfl
    · rfl
    · rfl
  · exact instr_eq_of_unmapped (by rw [opcode_instrOf, opcode_instrOf]) (by rwa [opcode_instrOf])

/-- An instruction with an operand reads the first byte after its opcode byte (R71 to R79). -/
theorem read_operand_mem {i : Instr} (s : State) (h : i.opcode ∈ [0xA9, 0xA5, 0xA2, 0x85, 0x95, 0xAD]) :
    .read s.pc ∈ instrTransactions i s := by
  have hMapped : [0xA9, 0xA5, 0xA2, 0x85, 0x95, 0xAD] ⊆ mappedOpcodes := by decide
  cases i using instr_elim with
  | tax | inx | nop | brk => exact absurd h (by decide)
  | unmapped i hop => exact absurd (hMapped h) hop
  | _ => exact List.mem_cons_self

/-- LDA Absolute reads the second byte too (R73). -/
theorem read_operandHigh_mem {i : Instr} (s : State) (h : i.opcode = 0xAD) :
    .read (s.pc + 1) ∈ instrTransactions i s := by
  cases i using instr_elim with
  | ldaAbs a => simp
  | unmapped i hop => exact absurd (h ▸ by decide) hop
  | _ => cases h

/-- A step fetches the same instruction from any memory that agrees on the cells it reads (R46, R50). -/
theorem fetchInstr_other_mem {s : State} {m : Memory} (hr : s.run = .running)
    (hm : agreeOnReads (stepTransactions s) s.mem m) : State.fetchInstr { s with mem := m } = s.fetchInstr := by
  rw [stepTransactions_running hr] at hm
  have hop : s.mem.read s.pc = m.read s.pc := hm _ List.mem_cons_self
  have hread : ∀ addr, .read addr ∈ instrTransactions s.fetchInstr s.fetchAdvance → m.read addr = s.mem.read addr :=
    fun addr h => (hm addr (List.mem_cons_of_mem _ h)).symm
  have hb1 : s.mem.read s.pc ∈ [0xA9, 0xA5, 0xA2, 0x85, 0x95, 0xAD] → m.read (s.pc + 1) = s.mem.read (s.pc + 1) :=
    fun h => hread _ (read_operand_mem s.fetchAdvance (by rwa [opcode_fetchInstr]))
  have hb2 : s.mem.read s.pc = 0xAD → m.read (s.pc + 2) = s.mem.read (s.pc + 2) := fun h => by
    have hmem := read_operandHigh_mem s.fetchAdvance (i := s.fetchInstr) (by rwa [opcode_fetchInstr])
    rw [State.fetchAdvance_pc, BitVec.add_assoc] at hmem
    exact hread _ hmem
  calc State.fetchInstr { s with mem := m }
    _ = instrOf (s.mem.read s.pc) (m.read (s.pc + 1)) (m.read (s.pc + 2)) := fetchInstr_of_read hop.symm
    _ = s.fetchInstr := instrOf_congr hb1 hb2

end Sys2Proof.Proofs
end

section
/-! The host's loads. -/

namespace Sys2Proof.Proofs
open Sys2Proof.Machine

/-- `load` on a Halted machine, and `load_and_run`, of a program that fits (R161, R167). -/
theorem serve_loads_of_fits {s : State} {program : List Byte} (h : s.run = .halted) (hfit : program.length ≤ 0x8000) :
    serve (.load program) (.live s) = (.live { s with mem := loadedMemory program s.mem }, .done) ∧
    serve (.loadAndRun program) (.live s) =
      (.live { requestReset { s with mem := loadedMemory program s.mem } with run := .running }, .done) := by
  simp only [serve_halted _ h, serveHalted, loadAndRun, loadProgram_of_fits s hfit, true_and]
  rfl

/-- A program too long for `load` leaves the machine as it is (R162, D8, D20; log 10). -/
theorem serve_loads_of_long {s : State} {program : List Byte} (h : s.run = .halted) (hlong : 0x8000 < program.length) :
    serve (.load program) (.live s) = (.live s, .loadCapacity) ∧
    serve (.loadAndRun program) (.live s) = (.live s, .loadCapacity) := by
  simp only [serve_halted _ h, serveHalted, loadAndRun, loadProgram_of_long s hlong, and_self]

end Sys2Proof.Proofs
end

section
/-! The obligations on the state. -/

namespace Sys2Proof.Proofs
open Sys2Proof.Machine

/-- Settles O15: a Halted machine serves each request by its row of R170; the other two moments have one rule each. -/
theorem hostMovesFollowTheTable : Obligations.HostMovesFollowTheTable := by
  refine ⟨fun s h => ?_, fun r s => serve_running r, fun _ => rfl, fun r f hr => if_neg hr⟩
  have hserve : ∀ r, serve r (.live s) = (.live (serveHalted r s).1, (serveHalted r s).2) := fun r => serve_halted r h
  exact ⟨hserve _, fun _ => hserve _, fun _ _ => hserve _, hserve _, hserve _, hserve _, hserve _, hserve _,
    fun _ => hserve _, fun _ => hserve _, fun _ => hserve _, fun _ => hserve _, fun _ => hserve _,
    fun _ => serve_loads_of_fits h, fun _ => serve_loads_of_long h, hserve _, hserve _⟩

/-- Settles O35: what an instruction does to `P`, by opcode byte, with the two flags of the updater (R97). -/
theorem flagsFollowDestinationRegister : Obligations.FlagsFollowDestinationRegister := by
  intro i s t h
  have hDisjoint : ∀ op ∈ [0xA9, 0xA5, 0xAD], op ∉ [0xA2, 0xAA, (0xE8 : Byte)] := by decide
  obtain ⟨hA, hX⟩ := flagOpcodes_subset
  rcases p_of_exec h with ⟨hop, hp⟩ | ⟨hop, hp⟩ | ⟨hop, hp⟩ <;> rw [hp]
  · exact ⟨fun _ => ⟨zero_updateZN _ _, negative_updateZN _ _⟩, fun hm => absurd hm (hDisjoint _ hop),
      fun hm => absurd (hA hop) hm⟩
  · exact ⟨fun hm => absurd hop (hDisjoint _ hm), fun _ => ⟨zero_updateZN _ _, negative_updateZN _ _⟩,
      fun hm => absurd (hX hop) hm⟩
  · exact ⟨fun hm => absurd (hA hm) hop, fun hm => absurd (hX hm) hop, fun _ => ⟨rfl, rfl⟩⟩

/-- Settles O36: the updater keeps the inert bits and nothing else writes `P`. -/
theorem inertStatusBitsKept : Obligations.InertStatusBitsKept := by
  refine ⟨fun i s t h => ⟨fun k hk => ?_, p_of_exec_other h⟩, requestReset_p, rfl, State.startRun_p,
    fun program s t h => ?_⟩
  · have hInert : ∀ k ∈ [6, 5, 4, 3, 2, 0], k ≠ 1 ∧ k ≠ 7 := by decide
    exact inert_of_exec h (hInert k hk).1 (hInert k hk).2
  · rcases loadProgram_cases program s with ⟨-, hl⟩ | ⟨-, hl⟩
    · cases hl.symm.trans h
      rfl
    · cases hl.symm.trans h

/-- Settles O39: the effects of the opcode bytes that remain when the loads and the stores are left out. -/
theorem noOperandFrame : Obligations.NoOperandFrame := by
  intro i s t h hno
  have he := opcodeEffect_of_exec h
  generalize i.opcode = op at he hno ⊢
  cases he with
  | loadA v hop =>
    have hLoad : [0xA9, 0xA5, 0xAD] ⊆ [0xA9, 0xA5, 0xAD, 0xA2, 0x85, (0x95 : Byte)] := by decide
    exact absurd (hLoad hop) hno
  | loadX v hop => subst hop; exact absurd (by decide) hno
  | storeA b hop =>
    have hStore : [0x85, 0x95] ⊆ [0xA9, 0xA5, 0xAD, 0xA2, 0x85, (0x95 : Byte)] := by decide
    exact absurd (hStore hop) hno
  | writeX v hop =>
    exact ⟨rfl, rfl, fun _ => rfl, fun _ => inert_updateZN _ _, fun hm => absurd hop hm, fun _ => rfl, fun _ => rfl⟩
  | skip hop =>
    exact ⟨rfl, rfl, fun _ => rfl, fun _ _ _ => rfl, fun _ => ⟨rfl, rfl⟩, fun hne => absurd hop hne, fun _ => rfl⟩
  | halt hop =>
    exact ⟨rfl, rfl, fun _ => rfl, fun _ _ _ => rfl, fun _ => ⟨rfl, rfl⟩, fun _ => rfl, fun hne => absurd hop hne⟩
  | none hop => exact ⟨rfl, rfl, fun _ => rfl, fun _ _ _ => rfl, fun _ => ⟨rfl, rfl⟩, fun _ => rfl, fun _ => rfl⟩

/-- Settles O40: no effect writes `Y`, and every meaning answers alike when `Y` differs. -/
theorem yIsNeitherReadNorWritten : Obligations.YIsNeitherReadNorWritten := by
  intro s t h
  obtain ⟨hr, hexec, heff⟩ := step_cases h
  exact ⟨(y_of_effect heff :), fun y' => (step_running (s := { s with y := y' }) hr).trans (exec_other_y y' hexec)⟩

/-- Settles O41: the fetch advance, then the column "adv" of R55 for the opcode byte at `pc`. -/
theorem pcAdvancesByInstructionLength : Obligations.PcAdvancesByInstructionLength := by
  intro s t h op
  obtain ⟨-, hexec, -⟩ := step_cases h
  have hpc : t.pc = s.pc + (1 + BitVec.ofNat 16 (opcodeAdvance op)) := by
    rw [pc_of_exec hexec, opcode_fetchInstr, State.fetchAdvance_pc, BitVec.add_assoc]
  rw [hpc]
  refine ⟨fun hm => ?_, fun hm => ?_, fun hm => ?_⟩
  · rw [opcodeAdvance_eq, if_pos hm]; rfl
  · rw [hm]; rfl
  · rw [opcodeAdvance_eq_zero hm]; rfl

/-- Settles O51: the same instruction is fetched, and it reads no cell but those of its transactions. -/
theorem stepDependsOnlyOnItsReads : Obligations.StepDependsOnlyOnItsReads := by
  intro s t m h hm
  obtain ⟨hr, hexec, -⟩ := step_cases h
  have hfetch := fetchInstr_other_mem hr hm
  have hts : stepTransactions { s with mem := m } = stepTransactions s := by
    rw [stepTransactions_running hr, stepTransactions_running (s := { s with mem := m }) hr, hfetch]
    exact congrArg (Transaction.read s.pc :: ·) (instrTransactions_other_mem s.fetchInstr s.fetchAdvance m)
  refine ⟨hts, ?_⟩
  rw [stepTransactions_running hr] at hm ⊢
  rw [step_running (s := { s with mem := m }) hr, hfetch]
  exact (exec_other_mem hexec fun addr haddr => hm addr (List.mem_cons_of_mem _ haddr) :)

/-- Settles O52: only STA has a write among its transactions, and that write is all it does to memory. -/
theorem stepWritesAreItsTransactions : Obligations.StepWritesAreItsTransactions := by
  intro s t h
  obtain ⟨hr, hexec, -⟩ := step_cases h
  rw [stepTransactions_running hr]
  rcases mem_of_exec hexec with ⟨hReads, hmem⟩ | ⟨b, hts, hmem⟩
  · have hAll : ∀ e ∈ .read s.pc :: instrTransactions s.fetchInstr s.fetchAdvance, e.isWrite = false :=
      List.forall_mem_cons.mpr ⟨rfl, hReads⟩
    refine ⟨hmem.trans (applyTransactions_of_reads _ hAll).symm, rfl, fun addr v hw => ?_, ?_⟩
    · exact absurd (hAll _ hw) (Bool.noConfusion ·)
    · rw [List.filter_eq_nil_iff.mpr fun e he => by simp [hAll e he]]
      decide
  · rw [hts]
    refine ⟨hmem, rfl, fun addr v hw => ?_, le_rfl⟩
    obtain ⟨rfl, rfl⟩ : addr = zeroPageAddr b ∧ v = s.a := by simpa using hw
    exact ⟨toNat_zeroPageAddr b ▸ b.isLt, rfl⟩

/-- Settles O8: both memories are the empty list. -/
theorem resetMemoryIsCanonical : Obligations.ResetMemoryIsCanonical :=
  ⟨Memory.wf_nil, Memory.wf_nil⟩

/-- Settles O10: the vector read from zero-filled memory is 0x0000 (R165), so `reset` changes nothing after power-on. -/
theorem powerOnAndResetValues : Obligations.PowerOnAndResetValues := by
  have hReset : requestReset powerOn = State.reset := by decide
  exact ⟨rfl, hReset, rfl, rfl, rfl, rfl, rfl, rfl, Memory.read_nil⟩

end Sys2Proof.Proofs
end

section
/-! The cells of a canonical memory, and what a write leaves in them. -/

namespace Sys2Proof.Proofs
open Sys2Proof.Machine

/-- A canonical list holds exactly the cells that read as their byte and are not 0x00 (log 11). -/
theorem mem_iff_byteAt {m : Memory} (h : m.wf) {c : Host.Cell} : c ∈ m ↔ m.byteAt c.1 = c.2 ∧ c.2 ≠ 0 := by
  obtain ⟨hRising, hNonzero⟩ := h
  induction m with
  | nil => exact ⟨fun hc => absurd hc List.not_mem_nil, fun ⟨hRead, hc⟩ => absurd hRead.symm hc⟩
  | cons d rest ih =>
    obtain ⟨hAbove, hRest⟩ := List.pairwise_cons.mp hRising
    obtain ⟨⟨-, hd⟩, hRestNonzero⟩ := List.forall_mem_cons.mp hNonzero
    rw [List.mem_cons, Memory.byteAt]
    by_cases hkey : d.1 = c.1
    · have hc : c ∉ rest := fun hc => Nat.ne_of_lt (hAbove c hc) hkey
      rw [if_pos hkey, or_iff_left hc]
      exact ⟨by rintro rfl; exact ⟨rfl, hd⟩, fun ⟨h, _⟩ => Prod.ext hkey.symm h.symm⟩
    · have hc : c ≠ d := fun h => hkey (h ▸ rfl)
      rw [if_neg hkey, or_iff_right hc, ih hRest hRestNonzero]

/-- A key outside the 65536 cells reads as an unwritten byte (R31). -/
theorem byteAt_of_ge {m : Memory} (h : m.wf) {key : Nat} (hkey : 65536 ≤ key) : m.byteAt key = unwrittenByte := by
  by_contra hv
  have hc : (key, m.byteAt key) ∈ m := (mem_iff_byteAt h).mpr ⟨rfl, hv⟩
  exact Nat.not_lt.mpr hkey (h.2 _ hc).1

/-- Canonical memories that read alike at every address read alike at every key. -/
theorem byteAt_eq_of_read_eq {m n : Memory} (hm : m.wf) (hn : n.wf) (h : ∀ addr, m.read addr = n.read addr)
    (key : Nat) : m.byteAt key = n.byteAt key := by
  rcases Nat.lt_or_ge key 65536 with hlt | hge
  · exact h (BitVec.ofFin ⟨key, hlt⟩)
  · rw [byteAt_of_ge hm hge, byteAt_of_ge hn hge]

/-- Writes one after the other: a read gives the byte of the last write to its address (R32, R33). -/
theorem read_foldl_write (m : Memory) (writes : List (Addr × Byte)) (addr : Addr) :
    (writes.foldl (fun n w => n.write w.1 w.2) m).read addr =
      ((writes.reverse.find? fun w => w.1 == addr).map Prod.snd).getD (m.read addr) := by
  induction writes using List.reverseRecOn with
  | nil => rfl
  | append_singleton ws w ih =>
    rw [List.foldl_concat, Memory.read_write, List.reverse_concat, List.find?_cons]
    by_cases hw : addr = w.1
    · rw [if_pos hw, beq_iff_eq.mpr hw.symm]
      rfl
    · rw [if_neg hw, beq_eq_false_iff_ne.mpr (Ne.symm hw)]
      exact ih

/-- A write to the zero page keeps every cell above it (R33). -/
theorem read_write_zeroPageAddr (m : Memory) (b v : Byte) {addr : Addr} (h : 0x100 ≤ addr.toNat) :
    (m.write (zeroPageAddr b) v).read addr = m.read addr := by
  have hne : addr ≠ zeroPageAddr b := by
    rintro rfl
    exact Nat.not_le.mpr b.isLt (toNat_zeroPageAddr b ▸ h)
  rw [Memory.read_write, if_neg hne]

/-- STA leaves `A` in the cell at its effective address (R33, R114, R115). -/
theorem read_of_storeA {o : Operand} {s t : State} {ea : Addr} (h : storeA o s = .next t)
    (hea : effectiveAddress o s = .ok ea) : t.mem.read ea = s.a := by
  cases (withOperand_of_ok hea).symm.trans h
  rw [State.advance_mem, State.store_mem, Memory.read_write, if_pos rfl]

/-- A fetch takes a cell within reach of `pc` as the opcode byte or as one of the two bytes after it (R46, R50). -/
theorem fetchInstr_of_cell {t : State} {ea : Addr} {v : Byte} (h : t.mem.read ea = v) :
    (t.pc = ea → t.fetchInstr.opcode = v) ∧
    (t.pc + 1 = ea → t.fetchInstr = instrOf (t.mem.read t.pc) v (t.mem.read (t.pc + 2))) ∧
    (t.pc + 2 = ea → t.fetchInstr = instrOf (t.mem.read t.pc) (t.mem.read (t.pc + 1)) v) := by
  subst h
  exact ⟨fun hpc => hpc ▸ opcode_fetchInstr t, fun hpc => hpc ▸ fetchInstr_of_read rfl,
    fun hpc => hpc ▸ fetchInstr_of_read rfl⟩

end Sys2Proof.Proofs
end

section
/-! What a step and a run keep. -/

namespace Sys2Proof.Proofs
open Sys2Proof.Machine

/-- What a step does to memory: nothing, or it writes `A` to one zero-page cell (R38, R41). -/
theorem mem_of_step {s t : State} (h : step s = .next t) :
    t.mem = s.mem ∨ ∃ b, t.mem = s.mem.write (zeroPageAddr b) s.a := by
  obtain ⟨-, hexec, -⟩ := step_cases h
  rcases mem_of_exec hexec with ⟨-, hmem⟩ | ⟨b, -, hmem⟩
  · exact .inl hmem
  · exact .inr ⟨b, hmem⟩

/-- A step keeps every cell above the zero page (R41). -/
theorem read_of_step {s t : State} (h : step s = .next t) {addr : Addr} (hAbove : 0x100 ≤ addr.toNat) :
    t.mem.read addr = s.mem.read addr := by
  rcases mem_of_step h with hmem | ⟨b, hmem⟩ <;> rw [hmem]
  exact read_write_zeroPageAddr _ _ _ hAbove

/-- The mask 0x7D picks the six inert bits of a status byte (R18). -/
theorem and_inertMask_congr {p q : Byte} (h : ∀ k, k ≠ 1 → k ≠ 7 → p.getLsbD k = q.getLsbD k) :
    p &&& 0x7D = q &&& 0x7D := by
  have hMask : (0x7D : Byte).getLsbD 1 = false ∧ (0x7D : Byte).getLsbD 7 = false := by decide
  refine BitVec.eq_of_getLsbD_eq fun k _ => ?_
  rw [BitVec.getLsbD_and, BitVec.getLsbD_and]
  by_cases h1 : k = 1
  · rw [h1, hMask.1, Bool.and_false, Bool.and_false]
  by_cases h7 : k = 7
  · rw [h7, hMask.2, Bool.and_false, Bool.and_false]
  rw [h k h1 h7]

/-- A step keeps the inert status bits (R18). -/
theorem inert_of_step {s t : State} (h : step s = .next t) : t.p &&& 0x7D = s.p &&& 0x7D := by
  obtain ⟨-, hexec, -⟩ := step_cases h
  exact and_inertMask_congr fun k => inert_of_exec hexec

/-- A step keeps `Y` (R12). -/
theorem y_of_step {s t : State} (h : step s = .next t) : t.y = s.y := by
  obtain ⟨-, -, heff⟩ := step_cases h
  exact (y_of_effect heff :)

/-- What every step keeps of the state, every run keeps. -/
theorem keeps_of_run {α : Type} (f : State → α) (hstep : ∀ s t, step s = .next t → f t = f s) {k : Nat}
    {s t : State} (h : Host.Core.run core k s = .next t) : f t = f s := by
  induction k generalizing s with
  | zero => exact congrArg f (core_run_zero.mp h).symm
  | succ k ih =>
    obtain ⟨u, hu, hrun⟩ := core_run_succ.mp h
    exact (ih hrun).trans (hstep s u hu)

end Sys2Proof.Proofs
end

section
/-! The obligations on memory. -/

namespace Sys2Proof.Proofs
open Sys2Proof.Machine

/-- Settles O7: a step leaves memory alone or writes one byte, which keeps the canonical form. -/
theorem stepKeepsMemoryCanonical : Obligations.StepKeepsMemoryCanonical := by
  intro s t hs h
  rw [Inv]
  rcases mem_of_step h with hmem | ⟨b, hmem⟩ <;> rw [hmem]
  · exact hs
  · exact Memory.wf_write _ _ hs

/-- Settles O44: a step keeps each of the three, so a run does. -/
theorem runsWriteOnlyTheZeroPage : Obligations.RunsWriteOnlyTheZeroPage := by
  intro k s t h
  exact ⟨fun addr hAbove => keeps_of_run (fun s => s.mem.read addr) (fun _ _ hs => read_of_step hs hAbove) h,
    keeps_of_run State.y (fun _ _ => y_of_step) h,
    keeps_of_run (fun s => s.p &&& 0x7D) (fun _ _ => inert_of_step) h⟩

/-- Settles O5: power-on memory is the empty list, and the last write comes first in the reversed list. -/
theorem readReturnsLastWrite : Obligations.ReadReturnsLastWrite := by
  refine ⟨Memory.read_nil, Memory.read_write, fun m writes addr => ?_⟩
  rw [read_foldl_write]
  cases writes.reverse.find? fun w => w.1 == addr <;> rfl

/-- Settles O6: both lists hold the cells that read as something other than 0x00, and both are strictly rising. -/
theorem canonicalMemoryIsExtensional : Obligations.CanonicalMemoryIsExtensional := by
  intro m n hm hn h
  have hAsymm : Std.Asymm fun c d : Host.Cell => c.1 < d.1 := ⟨fun _ _ => Nat.lt_asymm⟩
  refine hm.1.eq_of_mem_iff hn.1 fun c => ?_
  rw [mem_iff_byteAt hm, mem_iff_byteAt hn, byteAt_eq_of_read_eq hm hn h]

/-- Settles O53: both STA are `storeA`, and the cell it leaves is the one the next fetch reads. -/
theorem storeIsSeenByNextFetch : Obligations.StoreIsSeenByNextFetch := by
  have hZp : ∀ b s, exec (.staZp b) s = storeA (.zeroPage b) s := fun _ _ => rfl
  have hZpX : ∀ b s, exec (.staZpX b) s = storeA (.zeroPageX b) s := fun _ _ => rfl
  exact ⟨fun b s t h ea hea => fetchInstr_of_cell (read_of_storeA (hZp b s ▸ h) hea),
    fun b s t h ea hea => fetchInstr_of_cell (read_of_storeA (hZpX b s ▸ h) hea)⟩

end Sys2Proof.Proofs
end

section
/-! The decoder and the encoder: what a byte list must be for `decode` to answer, and what the encoder writes for the
instruction it answers. -/

namespace Sys2Proof.Proofs

/-- A list with fewer bytes after the opcode byte than it owns is refused by the name of the opcode byte (log 19). -/
theorem decode_cons_of_lt {op : Byte} {rest : List Byte} (h : rest.length < opcodeAdvance op) :
    decode (op :: rest) = .error (.operandMissing op) := if_pos h

/-- The instruction of an opcode byte depends on the bytes its opcode owns and on none after them (R50, R52). -/
theorem instrOf_append {op : Byte} {field : List Byte} (hlen : field.length = opcodeAdvance op) (rest : List Byte) :
    instrOf op ((field ++ rest).getD 0 0) ((field ++ rest).getD 1 0) =
      instrOf op (field.getD 0 0) (field.getD 1 0) := by
  have hOwned : ∀ op ∈ [0xA9, 0xA5, 0xA2, 0x85, 0x95, (0xAD : Byte)], 0 < opcodeAdvance op := by decide
  refine instrOf_congr (fun hop => List.getD_append _ _ _ _ ?_) (fun hop => List.getD_append _ _ _ _ ?_)
  · exact hlen ▸ hOwned op hop
  · subst hop
    exact hlen ▸ Nat.one_lt_two

/-- `decode` answers exactly the lists of an opcode byte, the bytes it owns, and the bytes left over (R50, R51). -/
theorem decode_eq_ok_iff {bytes rest : List Byte} {i : Instr} :
    decode bytes = .ok (i, rest) ↔
      ∃ op field, field.length = opcodeAdvance op ∧ bytes = op :: (field ++ rest) ∧
        i = instrOf op (field.getD 0 0) (field.getD 1 0) := by
  constructor
  · intro h
    cases bytes with
    | nil => cases h
    | cons op tail =>
      rcases Nat.lt_or_ge tail.length (opcodeAdvance op) with hlt | hge
      · cases (decode_cons_of_lt hlt).symm.trans h
      · cases (decode_cons hge).symm.trans h
        have hlen : (tail.take (opcodeAdvance op)).length = opcodeAdvance op := List.length_take_of_le hge
        have hsplit := List.take_append_drop (opcodeAdvance op) tail
        exact ⟨op, _, hlen, by rw [hsplit], by rw [← instrOf_append hlen, hsplit]⟩
  · rintro ⟨op, field, hlen, rfl, rfl⟩
    have hge : opcodeAdvance op ≤ (field ++ rest).length := hlen ▸ (List.prefix_append field rest).length_le
    rw [decode_cons hge, instrOf_append hlen, List.drop_left' hlen]

/-- The low byte of `hi : lo` (R6, R34). -/
theorem setWidth_joinBytes (hi lo : Byte) : (joinBytes hi lo).setWidth 8 = lo :=
  BitVec.setWidth_append_eq_right

/-- The high byte of `hi : lo` (R6, R34). -/
theorem setWidth_ushiftRight_joinBytes (hi lo : Byte) : (joinBytes hi lo >>> 8).setWidth 8 = hi := by
  apply BitVec.eq_of_toNat_eq
  rw [BitVec.toNat_setWidth, BitVec.toNat_ushiftRight, toNat_joinBytes, Nat.shiftRight_eq_div_pow]
  omega

/-- The encoder writes back the bytes an opcode byte owns, but for the one that NOP skips (R50, R130). -/
theorem operandField_instrOf {op : Byte} {field : List Byte} (hlen : field.length = opcodeAdvance op)
    (hop : op ≠ 0xEA) :
    (instrOf op (field.getD 0 0) (field.getD 1 0)).operandField = field := by
  by_cases hOne : op ∈ [0xA9, 0xA5, 0xA2, 0x85, 0x95]
  · have hLength : ∀ op ∈ [0xA9, 0xA5, 0xA2, 0x85, (0x95 : Byte)], opcodeAdvance op = 1 := by decide
    obtain ⟨v, rfl⟩ := List.length_eq_one_iff.mp (hlen.trans (hLength op hOne))
    simp only [List.mem_cons, List.not_mem_nil, or_false] at hOne
    rcases hOne with rfl | rfl | rfl | rfl | rfl <;> rfl
  by_cases hTwo : op = 0xAD
  · subst hTwo
    obtain ⟨lo, hi, rfl⟩ := List.length_eq_two.mp hlen
    exact congrArg₂ (fun a b => [a, b]) (setWidth_joinBytes hi lo) (setWidth_ushiftRight_joinBytes hi lo)
  · have hNone : opcodeAdvance op = 0 := opcodeAdvance_eq_zero
      (by simpa only [List.mem_cons, hop, hTwo, List.not_mem_nil, or_false] using hOne)
    have hWritten := length_operandField (instrOf op (field.getD 0 0) (field.getD 1 0))
    rw [opcode_instrOf, hNone, List.length_eq_zero_iff] at hWritten
    rw [hWritten, List.length_eq_zero_iff.mp (hlen.trans hNone)]

/-- An opcode byte gives NOP exactly where it is 0xEA (R55). -/
theorem instrOf_eq_nop {op b1 b2 : Byte} : instrOf op b1 b2 = .nop ↔ op = 0xEA := by
  constructor
  · intro h
    rw [← opcode_instrOf op b1 b2, h]
    rfl
  · rintro rfl
    rfl

end Sys2Proof.Proofs
end

section
/-! The obligations on the encoding. -/

namespace Sys2Proof.Proofs

/-- Settles O2: the operand field has the length its opcode owns, and the two together name the instruction. -/
theorem decodeInvertsEncode : Obligations.DecodeInvertsEncode := by
  intro i rest
  exact decode_eq_ok_iff.mpr
    ⟨i.opcode, i.operandField, length_operandField i, rfl, (instrOf_opcode_operandField i).symm⟩

/-- Settles O3: the encoder writes back the bytes the opcode owns, and NOP owns one that it does not read. -/
theorem encodeInvertsDecode : Obligations.EncodeInvertsDecode := by
  intro bytes rest i h
  obtain ⟨op, field, hlen, rfl, rfl⟩ := decode_eq_ok_iff.mp h
  refine ⟨fun hne => ?_, fun hnop => ?_⟩
  · rw [encode, opcode_instrOf, operandField_instrOf hlen (mt instrOf_eq_nop.mpr hne), List.cons_append]
  · cases instrOf_eq_nop.mp hnop
    obtain ⟨skipped, rfl⟩ := List.length_eq_one_iff.mp hlen
    exact ⟨skipped, rfl⟩

/-- Settles O4: the length the statement writes out is the column "adv" of R55, on which `decode` branches. -/
theorem opcodeByteDecidesLength : Obligations.OpcodeByteDecidesLength := by
  refine ⟨rfl, fun op rest => ?_⟩
  rw [← opcodeAdvance_eq]
  exact ⟨decode_cons_of_lt, fun h => ⟨_, decode_cons h, opcode_instrOf _ _ _⟩⟩

/-- Settles O1: each of the twelve byte lists is decoded by evaluation. -/
theorem writtenOutBytesDecode : Obligations.WrittenOutBytesDecode :=
  ⟨rfl, rfl, rfl, rfl, rfl, rfl, rfl, rfl, rfl, rfl, rfl, rfl⟩

end Sys2Proof.Proofs
end

section
/-! What the resolver's sums and words are as numbers, and which modes the opcode map uses. -/

namespace Sys2Proof.Proofs
open Sys2Proof.Machine

/-- `zext_16` of the byte that holds a number modulo 256. -/
theorem zeroPageAddr_ofNat (n : Nat) : zeroPageAddr (BitVec.ofNat 8 n) = BitVec.ofNat 16 (n % 256) := by
  rw [zeroPageAddr, ← BitVec.ofNat_toNat, BitVec.toNat_ofNat]

/-- The address after it wraps inside the zero page. -/
theorem zeroPageAddr_ofNat_succ (n : Nat) :
    zeroPageAddr (BitVec.ofNat 8 n + 1) = BitVec.ofNat 16 ((n + 1) % 256) :=
  (congrArg zeroPageAddr (BitVec.ofNat_add n 1)).symm.trans (zeroPageAddr_ofNat (n + 1))

/-- The sum of two bytes as a zero-page address wraps modulo 256 (R74, R75). -/
theorem zeroPageAddr_add (b c : Byte) : zeroPageAddr (b + c) = BitVec.ofNat 16 ((b.toNat + c.toNat) % 256) := by
  rw [BitVec.add_def, zeroPageAddr_ofNat]

/-- `hi : lo` as a number (R6). -/
theorem joinBytes_eq_ofNat (hi lo : Byte) : joinBytes hi lo = BitVec.ofNat 16 (256 * hi.toNat + lo.toNat) := by
  rw [← toNat_joinBytes, BitVec.ofNat_toNat, BitVec.setWidth_eq]

/-- An index register added in 16 bits wraps modulo 65536 (R76, R77, R79). -/
theorem ofNat_add_zeroPageAddr (n : Nat) (index : Byte) :
    BitVec.ofNat 16 n + zeroPageAddr index = BitVec.ofNat 16 ((n + index.toNat) % 65536) := by
  apply BitVec.eq_of_toNat_eq
  rw [BitVec.toNat_add, BitVec.toNat_ofNat, toNat_zeroPageAddr, BitVec.toNat_ofNat, Nat.mod_add_mod, Nat.mod_mod]

/-- The word at a zero-page pointer known modulo 256: the second byte's address wraps inside the zero page (R36). -/
theorem read16zp_ofNat (m : Memory) (n : Nat) :
    m.read16zp (BitVec.ofNat 8 n) =
      BitVec.ofNat 16 (256 * (m.read (BitVec.ofNat 16 ((n + 1) % 256))).toNat +
        (m.read (BitVec.ofNat 16 (n % 256))).toNat) := by
  rw [Memory.read16zp, joinBytes_eq_ofNat, zeroPageAddr_ofNat_succ, zeroPageAddr_ofNat]

/-- The five tags in the column "addressing mode" of R55: the other five have no opcode (R82). -/
theorem opcodeMode_mem (op : Byte) :
    opcodeMode op ∈ [Mode.immediate, .zeroPage, .zeroPageX, .absolute, .noAddressing] := by
  unfold opcodeMode
  split_ifs <;> decide

/-- A tag outside that column is no opcode's. -/
theorem opcodeMode_ne {mode : Mode} (h : mode ∉ [Mode.immediate, .zeroPage, .zeroPageX, .absolute, .noAddressing])
    (op : Byte) : opcodeMode op ≠ mode :=
  fun hop => h (hop ▸ opcodeMode_mem op)

end Sys2Proof.Proofs
end

section
/-! The obligations on the resolver. -/

namespace Sys2Proof.Proofs
open Sys2Proof.Machine

/-- Settles O48: a pointer is a number modulo 256: `read16zp_ofNat` gives its word, and its two reads wrap alike. -/
theorem indirectAddresses : Obligations.IndirectAddresses := by
  refine ⟨fun op => ⟨opcodeMode_ne (by decide) op, opcodeMode_ne (by decide) op⟩, fun s => ?_⟩
  intro b zp word
  have hPointerX : s.mem.read s.pc + s.x = BitVec.ofNat 8 (b + s.x.toNat) := BitVec.add_def _ _
  have hPointerY : s.mem.read s.pc = BitVec.ofNat 8 b := by rw [BitVec.ofNat_toNat, BitVec.setWidth_eq]
  refine ⟨?_, ?_, ?_, ?_⟩
  · calc resolve .indirectX s
      _ = .ok (s.mem.read16zp (s.mem.read s.pc + s.x)) := rfl
      _ = .ok (BitVec.ofNat 16 (word (b + s.x.toNat))) := by rw [hPointerX, read16zp_ofNat]
  · calc resolveTransactions .indirectX s
      _ = [.read s.pc, .read (zeroPageAddr (s.mem.read s.pc + s.x)),
            .read (zeroPageAddr (s.mem.read s.pc + s.x + 1))] := rfl
      _ = [.read s.pc, .read (zp (b + s.x.toNat)), .read (zp (b + s.x.toNat + 1))] := by
        rw [hPointerX, zeroPageAddr_ofNat_succ, zeroPageAddr_ofNat]
  · calc resolve .indirectY s
      _ = .ok (s.mem.read16zp (s.mem.read s.pc) + zeroPageAddr s.y) := rfl
      _ = .ok (BitVec.ofNat 16 (word b) + zeroPageAddr s.y) := by rw [hPointerY, read16zp_ofNat]
      _ = .ok (BitVec.ofNat 16 ((word b + s.y.toNat) % 65536)) := by rw [ofNat_add_zeroPageAddr]
  · calc resolveTransactions .indirectY s
      _ = [.read s.pc, .read (zeroPageAddr (s.mem.read s.pc)), .read (zeroPageAddr (s.mem.read s.pc + 1))] := rfl
      _ = [.read s.pc, .read (zp b), .read (zp (b + 1))] := by
        rw [hPointerY, zeroPageAddr_ofNat_succ, zeroPageAddr_ofNat]

/-- Settles O45: both are the resolver's own branches, and the byte is zero-extended by value. -/
theorem immediateAndZeroPageAddress : Obligations.ImmediateAndZeroPageAddress := by
  intro s
  exact ⟨rfl, rfl, congrArg Except.ok (BitVec.ofNat_toNat 16 _).symm, rfl⟩

/-- Settles O46: R55 has no ZeroPage,Y, and the sum of two bytes wraps in 8 bits. -/
theorem indexedZeroPageAddress : Obligations.IndexedZeroPageAddress := by
  refine ⟨opcodeMode_ne (by decide), fun s => ?_⟩
  exact ⟨congrArg Except.ok (zeroPageAddr_add _ s.x), rfl, congrArg Except.ok (zeroPageAddr_add _ s.y), rfl⟩

/-- Settles O47: the word at `pc` is its two bytes joined, and the index is added to it in 16 bits (D4, log 2). -/
theorem absoluteAddresses : Obligations.AbsoluteAddresses := by
  intro s lo hi
  have hWord : s.mem.read16 s.pc = BitVec.ofNat 16 (256 * hi + lo) := joinBytes_eq_ofNat _ _
  have hIndexed (index : Byte) :
      s.mem.read16 s.pc + zeroPageAddr index = BitVec.ofNat 16 ((256 * hi + lo + index.toNat) % 65536) := by
    rw [hWord, ofNat_add_zeroPageAddr]
  refine ⟨congrArg Except.ok hWord, congrArg Except.ok (hIndexed s.x), congrArg Except.ok (hIndexed s.y), ?_⟩
  intro mode hMode
  simp only [List.mem_cons, List.not_mem_nil, or_false] at hMode
  rcases hMode with rfl | rfl | rfl <;> rfl

end Sys2Proof.Proofs
end

section
/-! How a step changes the run state, how a run ends, and what the host's moves do to the run state. -/

namespace Sys2Proof.Proofs
open Sys2Proof.Machine

/-- A step that fetches 0x00 halts one past it and changes nothing else (R92, R131). -/
theorem step_of_zero {s : State} (hr : s.run = .running) (h0 : s.mem.read s.pc = 0x00) :
    step s = .next { s with pc := s.pc + 1, run := .halted } := by
  rw [step_running hr, fetchInstr_eq_brk.mpr h0]
  rfl

/-- A step that fetches any other opcode byte completes and stays Running (R90, R143). -/
theorem step_of_nonzero {s : State} (hr : s.run = .running) (h0 : s.mem.read s.pc ≠ 0x00) :
    ∃ t, step s = .next t ∧ t.run = .running := by
  obtain ⟨t, ht, -, hbrk | hrun⟩ := exec_effect s.fetchInstr s.fetchAdvance
  · exact absurd (fetchInstr_eq_brk.mp hbrk) h0
  · exact ⟨t, (step_running hr).trans ht, hrun.trans hr⟩

/-- A step answers a next state exactly while Running (R91). -/
theorem exists_step_iff {s : State} : (∃ t, step s = .next t) ↔ s.run = .running := by
  constructor
  · rintro ⟨t, h⟩
    exact (step_cases h).1
  · intro hr
    obtain ⟨t, ht, -⟩ := exec_effect s.fetchInstr s.fetchAdvance
    exact ⟨t, (step_running hr).trans ht⟩

/-- The core's move is its step, where that completes (R91). -/
theorem tick_of_step {s t : State} (h : step s = .next t) : tick (.live s) = .live t := by
  rw [tick_live, h, boardAfter_next]

/-- While Halted the core's move leaves the state alone (R91). -/
theorem tick_halted {s : State} (h : s.run = .halted) : tick (.live s) = .live s := by
  rw [tick_live, step_halted h, boardAfter_refused]

/-- A Halted machine stays Halted through every request but `run` and `load_and_run` (R90, R170). -/
theorem run_serveHalted {r : Request} {s : State} (h : s.run = .halted) (hRun : r ≠ .run)
    (hLoadAndRun : ∀ program, r ≠ .loadAndRun program) : (serveHalted r s).1.run = .halted := by
  cases r with
  | run => exact absurd rfl hRun
  | loadAndRun program => exact absurd rfl (hLoadAndRun program)
  | powerOn => rfl
  | writeRegister r v => exact (writeReg_run s r v).trans h
  | load program =>
    rcases loadProgram_cases program s with ⟨-, hl⟩ | ⟨-, hl⟩ <;> simp only [serveHalted, hl, h]
  | _ => exact h

/-- A run from a Halted state ends there (R92). -/
theorem endsAt_halted {s : State} (h : s.run = .halted) : EndsAt s s :=
  ⟨0, endOfRun_halted 0 h⟩

/-- A run ends where it ends from any state it passes. -/
theorem endsAt_of_run {k : Nat} {s u t : State} (h : Host.Core.run core k s = .next u) (hu : EndsAt u t) :
    EndsAt s t := by
  induction k generalizing s with
  | zero => exact core_run_zero.mp h ▸ hu
  | succ k ih =>
    obtain ⟨v, hv, hrun⟩ := core_run_succ.mp h
    obtain ⟨fuel, hfuel⟩ := ih hrun
    exact ⟨fuel + 1, (endOfRun_succ (step_cases hv).1 hv).mpr hfuel⟩

/-- A run that ends passes a Running state with 0x00 at `pc`, and ends at the state the step from there gives (R92). -/
theorem zeroFetched_of_endOfRun {fuel : Nat} {s t : State} (hr : s.run = .running)
    (h : endOfRun fuel s = some t) :
    ∃ k u, Host.Core.run core k s = .next u ∧ u.run = .running ∧ u.mem.read u.pc = 0x00 ∧
      t = { u with pc := u.pc + 1, run := .halted } := by
  induction fuel generalizing s with
  | zero => simp [endOfRun, hr] at h
  | succ fuel ih =>
    by_cases h0 : s.mem.read s.pc = 0x00
    · have hend := (endOfRun_succ hr (step_of_zero hr h0)).mp h
      rw [endOfRun_halted fuel rfl] at hend
      exact ⟨0, s, rfl, hr, h0, (Option.some.inj hend).symm⟩
    · obtain ⟨v, hv, hvr⟩ := step_of_nonzero hr h0
      obtain ⟨k, u, hrun, hu⟩ := ih hvr ((endOfRun_succ hr hv).mp h)
      exact ⟨k + 1, u, core_run_succ.mpr ⟨v, hv, hrun⟩, hu⟩

end Sys2Proof.Proofs
end

section
/-! The flag updater as a mask formula, and the instructions that call the resolver. -/

namespace Sys2Proof.Proofs
open Sys2Proof.Machine

/-- The flag updater keeps P's six inert bits and sets the other two by masks (R97). -/
theorem updateZN_eq_masks (p v : Byte) :
    updateZN p v = (p &&& 0x7D) ||| (if v = 0x00 then 0x02 else 0x00) ||| (v &&& 0x80) := by
  have hMasks : ∀ k < 8, (0x7D : Byte).getLsbD k = decide (k ≠ 1 ∧ k ≠ 7) ∧
      (0x02 : Byte).getLsbD k = decide (k = 1) ∧ (0x80 : Byte).getLsbD k = decide (k = 7) := by decide
  refine BitVec.eq_of_getLsbD_eq fun k hk => ?_
  obtain ⟨hInert, hZero, hNegative⟩ := hMasks k hk
  have hZeroBit : (if v = 0x00 then 0x02 else 0x00 : Byte).getLsbD k = (v == 0 && decide (k = 1)) := by
    by_cases hv : v = 0x00
    · rw [if_pos hv, hZero, beq_iff_eq.mpr hv, Bool.true_and]
    · rw [if_neg hv, beq_eq_false_iff_ne.mpr hv, Bool.false_and]
      exact BitVec.getLsbD_zero
  rw [getLsbD_updateZN, BitVec.getLsbD_or, BitVec.getLsbD_or, BitVec.getLsbD_and, BitVec.getLsbD_and, hInert, hZeroBit,
    hNegative]
  by_cases h7 : k = 7
  · simp [h7]
  by_cases h1 : k = 1
  · simp [h1]
  · simp [h1, h7]

/-- No opcode owns more than two further bytes (R50). -/
theorem opcodeAdvance_le_two (op : Byte) : opcodeAdvance op ≤ 2 := by
  rw [opcodeAdvance_eq]
  split_ifs <;> decide

/-- `resolve` answers an address for every mode but the NoAddressing sentinel (R70, R80). -/
theorem exists_resolve {mode : Mode} (s : State) (h : mode ≠ .noAddressing) : ∃ ea, resolve mode s = .ok ea := by
  rcases effectiveAddress_cases (operandAt mode s) s with ⟨hno, -⟩ | ⟨-, hea⟩
  · exact absurd ((operandAt_mode mode s).symm.trans (congrArg Operand.mode hno)) h
  · exact hea

/-- LDA of the operand at `pc` loads the cell at the resolved address, the immediate byte included (R71, R110 to
R112). -/
theorem loadA_operandAt {mode : Mode} (s : State) (h : mode ≠ .noAddressing) :
    ∃ ea, resolve mode s = .ok ea ∧ loadA (operandAt mode s) s = .next { s with
      a := s.mem.read ea, p := updateZN s.p (s.mem.read ea), pc := s.pc + BitVec.ofNat 16 mode.operandBytes } := by
  obtain ⟨ea, hea⟩ := exists_resolve s h
  refine ⟨ea, hea, ?_⟩
  rw [loadA, withOperand_of_ok hea, operandData_operandAt hea, operandAt_mode]
  rfl

/-- LDX likewise (R71, R113). -/
theorem loadX_operandAt {mode : Mode} (s : State) (h : mode ≠ .noAddressing) :
    ∃ ea, resolve mode s = .ok ea ∧ loadX (operandAt mode s) s = .next { s with
      x := s.mem.read ea, p := updateZN s.p (s.mem.read ea), pc := s.pc + BitVec.ofNat 16 mode.operandBytes } := by
  obtain ⟨ea, hea⟩ := exists_resolve s h
  refine ⟨ea, hea, ?_⟩
  rw [loadX, withOperand_of_ok hea, operandData_operandAt hea, operandAt_mode]
  rfl

/-- STA stores `A` at the resolved address (R114, R115). -/
theorem storeA_operandAt {mode : Mode} (s : State) (h : mode ≠ .noAddressing) :
    ∃ ea, resolve mode s = .ok ea ∧ storeA (operandAt mode s) s = .next { s with
      mem := s.mem.write ea s.a, pc := s.pc + BitVec.ofNat 16 mode.operandBytes } := by
  obtain ⟨ea, hea⟩ := exists_resolve s h
  refine ⟨ea, hea, ?_⟩
  rw [storeA, withOperand_of_ok hea, operandAt_mode]
  rfl

/-- A step on an LDA opcode is LDA of the operand that the mode of its row finds at `pc` (R55, R95; log 4). -/
theorem step_lda {s : State} {op : Byte} (hr : s.run = .running) (hop : s.mem.read s.pc = op)
    (hLda : op ∈ [0xA9, 0xA5, 0xAD]) :
    step s = loadA (operandAt (opcodeMode op) s.fetchAdvance) s.fetchAdvance := by
  rw [step_running hr, fetchInstr_of_read hop]
  simp only [List.mem_cons, List.not_mem_nil, or_false] at hLda
  rcases hLda with rfl | rfl | rfl
  · rfl
  · rfl
  · have hHigh : s.pc + 2 = s.pc + 1 + 1 := (BitVec.add_assoc s.pc 1 1).symm
    rw [hHigh]
    rfl

/-- A step on the LDX opcode (R55, R95; log 4). -/
theorem step_ldx {s : State} (hr : s.run = .running) (hop : s.mem.read s.pc = 0xA2) :
    step s = loadX (operandAt .immediate s.fetchAdvance) s.fetchAdvance := by
  rw [step_running hr, fetchInstr_of_read hop]
  rfl

/-- A step on an STA opcode (R55, R95; log 4). -/
theorem step_sta {s : State} {op : Byte} (hr : s.run = .running) (hop : s.mem.read s.pc = op)
    (hSta : op ∈ [0x85, 0x95]) :
    step s = storeA (operandAt (opcodeMode op) s.fetchAdvance) s.fetchAdvance := by
  rw [step_running hr, fetchInstr_of_read hop]
  rcases List.mem_pair.mp hSta with rfl | rfl <;> rfl

end Sys2Proof.Proofs
end

section
/-! The obligations on the execution loop. -/

namespace Sys2Proof.Proofs
open Sys2Proof.Machine

/-- Settles O16: every instruction completes, so a Running state has a step, and a Halted one has none. -/
theorem stepEnabledExactlyWhileRunning : Obligations.StepEnabledExactlyWhileRunning := by
  intro s
  refine ⟨exists_step_iff, fun hr => ⟨?_, fun r => serve_running r hr⟩, tick_halted⟩
  obtain ⟨t, ht⟩ := exists_step_iff.mpr hr
  exact ⟨t, tick_of_step ht, ht⟩

/-- Settles O18: Halted, the host's rows of R170; Running, the step on 0x00 and on any other byte. -/
theorem runStateTransitions : Obligations.RunStateTransitions := by
  intro s
  refine ⟨fun h => ⟨?_, tick_halted h, fun r hRun hLoadAndRun => ?_⟩,
    fun hr => ⟨fun h0 => ?_, fun h0 => ?_, fun r => ?_⟩, tick_live s, fun f => ⟨boardAfter_fault s f, rfl⟩⟩
  · exact ⟨s.startRun, congrArg Prod.fst (serve_halted .run h), State.startRun_run s⟩
  · exact ⟨_, congrArg Prod.fst (serve_halted r h), run_serveHalted h hRun hLoadAndRun⟩
  · obtain ⟨t, ht, htr⟩ := step_of_nonzero hr h0
    exact ⟨t, tick_of_step ht, htr⟩
  · exact ⟨_, tick_of_step (step_of_zero hr h0), rfl⟩
  · exact congrArg Prod.fst (serve_running r hr)

/-- Settles O33: the three bit laws of the updater, and the mask formula they give. -/
theorem flagUpdaterRule : Obligations.FlagUpdaterRule := by
  intro p v
  exact ⟨zero_updateZN p v, negative_updateZN p v, fun k => inert_updateZN p v, updateZN_eq_masks p v⟩

/-- Settles O42: by induction on the fuel of the run. -/
theorem runEndsJustPastZeroOpcode : Obligations.RunEndsJustPastZeroOpcode := by
  intro s t hr ⟨fuel, h⟩
  exact zeroFetched_of_endOfRun hr h

/-- Settles O43: a run that ends has fetched 0x00 (O42), and a step that fetches 0x00 halts. -/
theorem runEndsExactlyWhenZeroFetched : Obligations.RunEndsExactlyWhenZeroFetched := by
  intro s hr
  constructor
  · rintro ⟨t, fuel, h⟩
    obtain ⟨k, u, hrun, hu, h0, -⟩ := zeroFetched_of_endOfRun hr h
    exact ⟨k, u, hrun, hu, h0⟩
  · rintro ⟨k, u, hrun, hu, h0⟩
    have hlast : Host.Core.run core 1 u = .next { u with pc := u.pc + 1, run := .halted } :=
      core_run_succ.mpr ⟨_, step_of_zero hu h0, rfl⟩
    exact ⟨_, endsAt_of_run hrun (endsAt_of_run hlast (endsAt_halted rfl))⟩

/-- Settles O50: the instruction carries the operand bytes that the mode of its row finds at `pc`, and that mode is
never NoAddressing. -/
theorem stepFollowsResolverPseudocode : Obligations.StepFollowsResolverPseudocode := by
  intro s hr op s1 lda sta
  refine ⟨fun hop => ?_, fun hop => ?_, fun hop => ?_, fun hop => ?_, fun hop => ?_, fun hop => ?_⟩
  · exact (loadA_operandAt (mode := .immediate) s1 (by decide)).imp fun _ =>
      And.imp_right (step_lda hr hop (by decide)).trans
  · exact (loadA_operandAt (mode := .zeroPage) s1 (by decide)).imp fun _ =>
      And.imp_right (step_lda hr hop (by decide)).trans
  · exact (loadA_operandAt (mode := .absolute) s1 (by decide)).imp fun _ =>
      And.imp_right (step_lda hr hop (by decide)).trans
  · exact (loadX_operandAt (mode := .immediate) s1 (by decide)).imp fun _ =>
      And.imp_right (step_ldx hr hop).trans
  · exact (storeA_operandAt (mode := .zeroPage) s1 (by decide)).imp fun _ =>
      And.imp_right (step_sta hr hop (by decide)).trans
  · exact (storeA_operandAt (mode := .zeroPageX) s1 (by decide)).imp fun _ =>
      And.imp_right (step_sta hr hop (by decide)).trans

/-- Settles O20: three bytes are enough for every opcode, so `decode` answers the fetched instruction. -/
theorem stepRunsDecodedInstruction : Obligations.StepRunsDecodedInstruction := by
  intro s i rest hr h
  cases (decode_cons (opcodeAdvance_le_two _)).symm.trans h
  exact step_running hr

/-- Settles O34: Zero is set only for 0x00, whose bit 7 is clear. -/
theorem zeroAndNegativeNeverBothSet : Obligations.ZeroAndNegativeNeverBothSet := by
  rintro p v ⟨hZero, hNegative⟩
  cases (zero_updateZN p v).mp hZero
  cases (negative_updateZN p 0x00).symm.trans hNegative

end Sys2Proof.Proofs
end

section
/-! The frame of a store, and the opcode bytes of the loads. -/

namespace Sys2Proof.Proofs
open Sys2Proof.Machine

/-- STA keeps every register, all of `P`, `run`, and every cell but the one at its effective address (R18, R33). -/
theorem frame_of_storeA {o : Operand} {s t : State} (h : storeA o s = .next t) :
    t.a = s.a ∧ t.x = s.x ∧ t.y = s.y ∧ t.p = s.p ∧ t.run = s.run ∧
    ∀ ea, effectiveAddress o s = .ok ea → ∀ addr, addr ≠ ea → t.mem.read addr = s.mem.read addr := by
  obtain ⟨written, hWritten, rfl⟩ := withOperand_eq_next.mp h
  refine ⟨rfl, rfl, rfl, rfl, rfl, fun ea hea addr hne => ?_⟩
  have hSame : written = ea := Except.ok.inj (hWritten.symm.trans hea)
  rw [State.advance_mem, State.store_mem, Memory.read_write, if_neg (hSame ▸ hne)]

/-- The next state of an instruction with one of the four load opcodes: LDA's, or LDX's (R110 to R113; log 4). -/
theorem load_of_exec {i : Instr} {s t : State} (h : exec i s = .next t)
    (hLoad : i.opcode ∈ [0xA9, 0xA5, 0xAD, 0xA2]) :
    (i.opcode ≠ 0xA2 ∧ ∃ v n, t = ((s.setA v).updateFlags v).advance n) ∨
    (i.opcode = 0xA2 ∧ ∃ v, t = ((s.setX v).updateFlags v).advance 1) := by
  have hMapped : [0xA9, 0xA5, 0xAD, 0xA2] ⊆ mappedOpcodes := by decide
  have he := opcodeEffect_of_exec h
  generalize i.opcode = op at he hLoad ⊢
  cases he with
  | loadA v hop => exact .inl ⟨by rintro rfl; exact absurd hop (by decide), v, _, rfl⟩
  | loadX v hop => exact .inr ⟨hop, v, rfl⟩
  | storeA b hop => rcases List.mem_pair.mp hop with rfl | rfl <;> exact absurd hLoad (by decide)
  | writeX v hop => rcases List.mem_pair.mp hop with rfl | rfl <;> exact absurd hLoad (by decide)
  | skip hop => subst hop; exact absurd hLoad (by decide)
  | halt hop => subst hop; exact absurd hLoad (by decide)
  | none hop => exact absurd (hMapped hLoad) hop

end Sys2Proof.Proofs
end

section
/-! The obligations on the loads and the stores. -/

namespace Sys2Proof.Proofs
open Sys2Proof.Machine

/-- Settles O37: LDA writes `A` and LDX writes `X`; beyond that only the flags, whose updater keeps the inert bits, and
`pc`. -/
theorem loadFrame : Obligations.LoadFrame := by
  intro i s t h hLoad
  rcases load_of_exec h hLoad with ⟨hop, v, n, rfl⟩ | ⟨hop, v, rfl⟩
  · exact ⟨fun _ => rfl, fun hX => absurd hX hop, rfl, rfl, fun _ => inert_updateZN _ _, fun _ => rfl⟩
  · exact ⟨fun hA => absurd hop hA, fun _ => rfl, rfl, rfl, fun _ => inert_updateZN _ _, fun _ => rfl⟩

/-- Settles O21: the operand's byte is the value itself. -/
theorem ldaImmediateLoadsOperandByte : Obligations.LdaImmediateLoadsOperandByte := by
  intro v s
  exact ⟨exec_ldaImm v s, instrTransactions_ldaImm v s⟩

/-- Settles O22: the operand's byte is the cell at the zero-extended base. -/
theorem ldaZeroPageLoadsCell : Obligations.LdaZeroPageLoadsCell := by
  intro b s
  exact ⟨exec_ldaZp b s, instrTransactions_ldaZp b s⟩

/-- Settles O23: the operand's byte is the cell at the target, and the operand has two bytes to advance past. -/
theorem ldaAbsoluteLoadsCell : Obligations.LdaAbsoluteLoadsCell := by
  intro target s
  exact ⟨exec_ldaAbs target s, instrTransactions_ldaAbs target s⟩

/-- Settles O24: as for LDA Immediate, with `X` as the destination. -/
theorem ldxImmediateLoadsOperandByte : Obligations.LdxImmediateLoadsOperandByte := by
  intro v s
  exact ⟨exec_ldxImm v s, instrTransactions_ldxImm v s⟩

/-- Settles O25: the store leaves `A` in the cell at the effective address, the zero-extended base. -/
theorem staZeroPageStoresA : Obligations.StaZeroPageStoresA := by
  intro b s
  have hStore : storeA (.zeroPage b) s = .next ((s.store (zeroPageAddr b) s.a).advance 1) := exec_staZp b s
  exact ⟨hStore, read_of_storeA hStore rfl, instrTransactions_staZp b s⟩

/-- Settles O26: as for STA ZeroPage, at the sum of the base and `X`, which wraps modulo 256. -/
theorem staZeroPageXStoresA : Obligations.StaZeroPageXStoresA := by
  intro b s ea
  have hSum : zeroPageAddr (b + s.x) = ea := zeroPageAddr_add b s.x
  have hStore : storeA (.zeroPageX b) s = .next ((s.store ea s.a).advance 1) := hSum ▸ exec_staZpX b s
  exact ⟨hStore, read_of_storeA hStore (congrArg Except.ok hSum), hSum ▸ instrTransactions_staZpX b s⟩

/-- Settles O38: both STA are `storeA`. -/
theorem storeFrame : Obligations.StoreFrame :=
  ⟨fun _ _ _ h => frame_of_storeA h, fun _ _ _ h => frame_of_storeA h⟩

end Sys2Proof.Proofs
end

section
/-! The obligations on the register operations. -/

namespace Sys2Proof.Proofs
open Sys2Proof.Machine

/-- INX's sum in the rule's words: the increment of a byte wraps from 0xFF to 0x00 (R99, R121). -/
theorem add_one_eq_ofNat_mod (b : Byte) : b + 1 = BitVec.ofNat 8 ((b.toNat + 1) % 256) := by
  apply BitVec.eq_of_toNat_eq
  rw [BitVec.toNat_add, BitVec.toNat_ofNat, Nat.mod_mod]
  rfl

/-- Settles O27: `A` is the value copied and the one the flags are set from. -/
theorem taxCopiesAToX : Obligations.TaxCopiesAToX := by
  intro s
  exact ⟨exec_tax s, instrTransactions_tax s⟩

/-- Settles O28: the byte sum `X + 1` is the sum modulo 256. -/
theorem inxAddsOneModulo256 : Obligations.InxAddsOneModulo256 := by
  intro s v
  have hSum : s.x + 1 = v := add_one_eq_ofNat_mod s.x
  exact ⟨hSum ▸ exec_inx s, instrTransactions_inx s⟩

end Sys2Proof.Proofs
end

section
/-! An instruction that does nothing, a step that reads its opcode byte only, and how a run resumes after BRK. -/

namespace Sys2Proof.Proofs
open Sys2Proof.Machine

/-- An unmapped instruction does nothing and issues no transaction (R57, R132). -/
theorem exec_of_unmapped {i : Instr} (h : i.opcode ∉ mappedOpcodes) (s : State) :
    exec i s = .next s ∧ instrTransactions i s = [] := by
  cases i using instr_elim with
  | unmapped i hop hexec hts => exact ⟨hexec s, hts s⟩
  | _ => exact absurd (List.mem_of_elem_eq_true rfl) h

/-- A step is the fetched instruction's, and reads the opcode byte only where that instruction has no transaction of its
own (R93). -/
theorem step_of_fetchInstr {s t : State} {i : Instr} (hr : s.run = .running) (hi : s.fetchInstr = i)
    (hexec : exec i s.fetchAdvance = .next t) (hts : instrTransactions i s.fetchAdvance = []) :
    step s = .next t ∧ stepTransactions s = [.read s.pc] := by
  rw [step_running hr, stepTransactions_running hr, hi]
  exact ⟨hexec, congrArg _ hts⟩

/-- NOP is fetched where the byte at `pc` is 0xEA (R55). -/
theorem fetchInstr_eq_nop {s : State} (h : s.mem.read s.pc = 0xEA) : s.fetchInstr = .nop :=
  instrOf_eq_nop.mpr h

/-- A `run` request undoes the halt of a Running state, so the run resumes where it stopped (R131, R166). -/
theorem serve_run_halt {s : State} (hr : s.run = .running) : serve .run (.live s.halt) = (.live s, .done) := by
  have hResumed : s.halt.startRun = s := by
    rw [State.halt, State.startRun, ← hr]
  rw [serve_halted .run s.halt_run, serveHalted, hResumed]

end Sys2Proof.Proofs
end

section
/-! The obligations on the system instructions. -/

namespace Sys2Proof.Proofs
open Sys2Proof.Machine

/-- Settles O30: a step on 0x00 fetches BRK, and every effect but BRK's keeps `run`. -/
theorem brkOnlyHalts : Obligations.BrkOnlyHalts := by
  refine ⟨rfl, exec_brk, fun s hr h0 => ?_, fun i s t hr h ht => ?_⟩
  · obtain ⟨hstep, hts⟩ := step_of_fetchInstr hr (fetchInstr_eq_brk.mpr h0) (exec_brk _) (instrTransactions_brk _)
    exact ⟨hstep, hts, serve_run_halt (s := s.fetchAdvance) hr⟩
  · obtain ⟨u, hu, -, hbrk | hrun⟩ := exec_effect i s
    · exact hbrk
    · cases hu.symm.trans h
      exact absurd (ht.symm.trans (hrun.trans hr)) (by decide)

/-- Settles O32: the fetched instruction has the byte at `pc` as its opcode, so it does nothing. -/
theorem unmappedByteIsOneByteNoOp : Obligations.UnmappedByteIsOneByteNoOp := by
  intro s hr hop
  have hUnmapped : s.fetchInstr.opcode ∉ mappedOpcodes := (opcode_fetchInstr s).symm ▸ hop
  obtain ⟨hexec, hts⟩ := exec_of_unmapped hUnmapped s.fetchAdvance
  exact step_of_fetchInstr hr rfl hexec hts

/-- Settles O29: NOP's own advance of one byte follows the fetch advance. -/
theorem nopSkipsOneUnreadByte : Obligations.NopSkipsOneUnreadByte := by
  refine ⟨fun s => ⟨exec_nop s, instrTransactions_nop s⟩, fun s hr hop => ?_⟩
  have hpc : s.pc + 2 = s.pc + 1 + 1 := (BitVec.add_assoc s.pc 1 1).symm
  rw [hpc]
  exact step_of_fetchInstr hr (fetchInstr_eq_nop hop) (exec_nop _) (instrTransactions_nop _)

/-- Settles O31: the ten opcode bytes named are the mapped ones. -/
theorem unmappedInstructionDoesNothing : Obligations.UnmappedInstructionDoesNothing := by
  intro i s hop
  exact exec_of_unmapped hop s

end Sys2Proof.Proofs
end

section
/-! Where a fault can come from: the resolver, a step, a run. -/

namespace Sys2Proof.Proofs
open Sys2Proof.Machine

/-- A fatal condition of the resolver is the answer, and the work is not done (R141, R142). -/
theorem withOperand_of_error {o : Operand} {work : Addr → State → State} {s : State} {f : Fault}
    (h : effectiveAddress o s = .error f) : withOperand o work s = .fault f := by
  rw [withOperand, h]

/-- An instruction completes, so it meets no fatal condition (R143). -/
theorem exec_ne_fault (i : Instr) (s : State) (f : Fault) : exec i s ≠ .fault f := by
  obtain ⟨t, ht, -⟩ := exec_effect i s
  simp [ht]

/-- A step completes while Running and is refused while Halted, so it meets no fatal condition (R91, R143). -/
theorem step_ne_fault (s : State) (f : Fault) : step s ≠ .fault f := by
  cases hr : s.run with
  | running => exact step_running hr ▸ exec_ne_fault _ _ f
  | halted => simp [step_halted hr]

/-- A run of `k + 1` steps faults where its first step faults, or where the `k` steps after it do. -/
theorem core_run_succ_fault {k : Nat} {s : State} {f : Fault} :
    Host.Core.run core (k + 1) s = .fault f ↔
      step s = .fault f ∨ ∃ u, step s = .next u ∧ Host.Core.run core k u = .fault f := by
  have hstep : core.step s = step s := rfl
  cases h : step s with
  | next u => simp [Host.Core.run, hstep, h]
  | fault g => simp [Host.Core.run, hstep, h]
  | refused r => simp [Host.Core.run, hstep, h]

/-- No step of a run faults, so no run does (R141, R143). -/
theorem neverFaults (s : State) : NeverFaults s := by
  intro k f
  induction k generalizing s with
  | zero => exact nofun
  | succ k ih =>
    intro h
    rcases core_run_succ_fault.mp h with hfault | ⟨u, -, hrun⟩
    · exact step_ne_fault s f hfault
    · exact ih u hrun

end Sys2Proof.Proofs
end

section
/-! The obligations on the fatal conditions. -/

namespace Sys2Proof.Proofs
open Sys2Proof.Machine

/-- Settles O19: every instruction completes, which carries over to a step and, by induction, to a run. -/
theorem noInstructionIsFatal : Obligations.NoInstructionIsFatal :=
  ⟨exec_ne_fault, step_ne_fault, neverFaults⟩

/-- Settles O49: the resolver refuses the sentinel, and the frame of loads and stores passes that on before the work. -/
theorem noAddressingIsFatalBeforeAccess : Obligations.NoAddressingIsFatalBeforeAccess := by
  intro s
  have hfault : effectiveAddress .noAddressing s = .error .resolveNoAddressing := rfl
  exact ⟨hfault, rfl, withOperand_of_error hfault, withOperand_of_error hfault, withOperand_of_error hfault⟩

end Sys2Proof.Proofs
end

section
/-! What the host's moves leave in memory: the canonical form, and the cells of a loaded image. -/

namespace Sys2Proof.Proofs
open Sys2Proof.Machine

/-- A successful `load` keeps the invariant (R161; log 11). -/
theorem inv_of_loadProgram {program : List Byte} {s t : State} (hs : Inv s) (h : loadProgram program s = some t) :
    Inv t := by
  rcases loadProgram_cases program s with ⟨-, hload⟩ | ⟨-, hload⟩ <;> cases hload.symm.trans h
  exact wf_loadedMemory program hs

/-- A move of the host on a Halted machine keeps the invariant (R170; log 11). -/
theorem inv_serveHalted (r : Request) {s : State} (hs : Inv s) : Inv (serveHalted r s).1 := by
  cases r with
  | powerOn => exact Memory.wf_nil
  | writeMemory addr v => exact Memory.wf_write addr v hs
  | writeRegister r v =>
    rw [Inv, serveHalted, writeReg_mem]
    exact hs
  | load program =>
    cases hload : loadProgram program s <;> simp only [serveHalted, hload]
    · exact hs
    · exact inv_of_loadProgram hs hload
  | loadAndRun program =>
    cases hload : loadProgram program s <;> simp only [serveHalted, loadAndRun, hload]
    · exact hs
    · rw [Inv, State.startRun_mem, requestReset_mem]
      exact inv_of_loadProgram hs hload
  | _ => exact hs

/-- A request of the host at any moment keeps the invariant (R24, R141, R170; log 11). -/
theorem boardInv_serve (r : Request) {b : Board} (hb : BoardInv b) : BoardInv (serve r b).1 := by
  cases b with
  | fatal f =>
    rw [serve]
    split
    · exact Memory.wf_nil
    · exact hb
  | live s =>
    cases hr : s.run with
    | running => exact serve_running r hr ▸ hb
    | halted => exact serve_halted r hr ▸ inv_serveHalted r hb

/-- The core's own move keeps the invariant: a step while Running, nothing otherwise (R90, R91; log 11). -/
theorem boardInv_tick {b : Board} (hb : BoardInv b) : BoardInv (tick b) := by
  cases b with
  | fatal f => exact hb
  | live s =>
    cases hr : s.run with
    | running =>
      obtain ⟨t, ht⟩ := exists_step_iff.mpr hr
      exact tick_of_step ht ▸ stepKeepsMemoryCanonical s t hb ht
    | halted => exact (tick_halted hr).symm ▸ hb

/-- The byte at place `k` of a run of writes is read back, when no later byte wraps round onto its cell. -/
theorem read_writeBytes_inside {bytes : List Byte} (m : Memory) (addr : Addr) (hlen : bytes.length ≤ 65536) {k : Nat}
    (hk : k < bytes.length) : (m.writeBytes addr bytes).read (addr + BitVec.ofNat 16 k) = bytes[k] := by
  induction bytes generalizing m addr k with
  | nil => exact absurd hk (Nat.not_lt_zero k)
  | cons b bs ih =>
    rw [List.length_cons] at hlen hk
    rw [Memory.writeBytes]
    cases k with
    | zero =>
      have hahead : bs.length ≤ (addr + BitVec.ofNat 16 0 - (addr + 1)).toNat := by bv_omega
      rw [Memory.read_writeBytes_outside _ _ _ _ hahead, Memory.read_write, if_pos (BitVec.add_zero addr),
        List.getElem_cons_zero]
    | succ k =>
      have hnext : addr + BitVec.ofNat 16 (k + 1) = addr + 1 + BitVec.ofNat 16 k := by bv_omega
      rw [hnext, ih _ _ (by omega) (by omega), List.getElem_cons_succ]

/-- `load` writes the vector last, so its two cells hold 0x8000 and the image is read everywhere else (R161). -/
theorem read_loadedMemory (program : List Byte) (m : Memory) (addr : Addr) :
    (loadedMemory program m).read addr =
      if addr = 0xFFFD then 0x80 else if addr = 0xFFFC then 0x00 else (m.writeBytes 0x8000 program).read addr := by
  rw [loadedMemory, Memory.read_write, Memory.read_write]
  rfl

/-- `load` leaves the cells outside the image and the vector as they were (R161). -/
theorem read_loadedMemory_outside {program : List Byte} (m : Memory) (hfit : program.length ≤ 0x8000) {addr : Addr}
    (hout : addr.toNat < 0x8000 ∨ 0x8000 + program.length ≤ addr.toNat) (hlo : addr ≠ 0xFFFC)
    (hhi : addr ≠ 0xFFFD) :
    (loadedMemory program m).read addr = m.read addr := by
  rw [read_loadedMemory, if_neg hhi, if_neg hlo]
  exact Memory.read_writeBytes_outside _ _ _ _ (by bv_omega)

/-- `load` puts byte `k` of a program that fits at 0x8000 + `k`, where the vector does not overwrite it (R161). -/
theorem read_loadedMemory_image {program : List Byte} (m : Memory) (hfit : program.length ≤ 0x8000) {k : Nat}
    (hk : k < program.length) (hlo : k ≠ 0x7FFC) (hhi : k ≠ 0x7FFD) :
    (loadedMemory program m).read (BitVec.ofNat 16 (0x8000 + k)) = program[k] := by
  have hne : BitVec.ofNat 16 (0x8000 + k) ≠ 0xFFFD ∧ BitVec.ofNat 16 (0x8000 + k) ≠ 0xFFFC := by
    constructor <;> bv_omega
  rw [read_loadedMemory, if_neg hne.1, if_neg hne.2, BitVec.ofNat_add]
  exact read_writeBytes_inside m 0x8000 (by omega) hk

/-- `reset` after `load` takes the program counter from the vector that `load` wrote (R161, R164). -/
theorem requestReset_loadedMemory (program : List Byte) (s : State) :
    requestReset { s with mem := loadedMemory program s.mem } =
      { s with a := 0x00, x := 0x00, p := 0x00, pc := 0x8000, mem := loadedMemory program s.mem } := by
  rw [requestReset, read16_loadedMemory]

end Sys2Proof.Proofs
end

section
/-! The obligations on `reset`, `load` and `load_and_run`, and the invariant of the host's moves. -/

namespace Sys2Proof.Proofs
open Sys2Proof.Machine

/-- Settles O9: the host's moves write byte by byte or start from empty memory, and the core's move is a step. -/
theorem hostMovesKeepMemoryCanonical : Obligations.HostMovesKeepMemoryCanonical := by
  intro b hb
  exact ⟨fun r => boardInv_serve r hb, boardInv_tick hb⟩

/-- Settles O12: the vector is written after the image, and a program that fits does not wrap past 0xFFFF. -/
theorem loadPlacesProgramAndVector : Obligations.LoadPlacesProgramAndVector := by
  intro program s hfit
  exact ⟨loadProgram_of_fits s hfit, read_loadedMemory program s.mem 0xFFFC, read_loadedMemory program s.mem 0xFFFD,
    fun k hk => read_loadedMemory_image s.mem hfit hk, fun addr => read_loadedMemory_outside s.mem hfit⟩

/-- Settles O14: `load` leaves the vector 0x8000, which the `reset` before the run reads. -/
theorem loadAndRunStartsAtImage : Obligations.LoadAndRunStartsAtImage := by
  intro program s hfit h
  rw [(serve_loads_of_fits h hfit).2, requestReset_loadedMemory]

/-- Settles O11: the vector's low byte is at 0xFFFC and its high byte at 0xFFFD. -/
theorem resetLoadsVectorAndKeepsY : Obligations.ResetLoadsVectorAndKeepsY := by
  intro s
  exact ⟨requestReset_a s, requestReset_x s, requestReset_p s, requestReset_pc s, requestReset_y s,
    requestReset_run s, requestReset_mem s, rfl⟩

/-- Settles O13: `load` refuses a program that is too long, and `load_and_run` stops there. -/
theorem oversizedLoadChangesNothing : Obligations.OversizedLoadChangesNothing := by
  intro program s hlong h
  exact ⟨loadProgram_of_long s hlong, serve_loads_of_long h hlong⟩

end Sys2Proof.Proofs
end
